-- ==== Sys2Proof/Word.lean ====
section
/-! DEFINITION. The word types of the Microboy CORE: bytes, 16-bit words, shades, and a sparse memory. -/

namespace Sys2Proof

/-- An 8-bit byte: every register half and every bus access (00_scope R5). -/
abbrev Byte := BitVec 8

/-- A 16-bit word: SP, PC, the register pairs and every bus address (00_scope R5). -/
abbrev Word := BitVec 16

/-- A 2-bit shade or colour index (10_state R48, R49). -/
abbrev Shade := BitVec 2

/-- A memory: the listed (address, byte) pairs, addresses rising; an unlisted address reads as
`Memory.unlisted` (Machine/Memory.lean). -/
abbrev Memory := List Host.Cell

end Sys2Proof
end

