-- ==== Sys2Proof/Machine/Bits.lean ====
section
/-! DEFINITION. The bit-field, byte-order and sign-extension helpers that the decoder and the machine share. -/

namespace Sys2Proof.Machine

/-- The 16-bit word of a high and a low byte: `high*256 + low` (10_state R31, 20_memory R125). -/
def mkWord (hi lo : Byte) : Word := hi ++ lo

/-- `w[15:8]`. -/
def hiByte (w : Word) : Byte := w.extractLsb' 8 8

/-- `w[7:0]`. -/
def loByte (w : Word) : Byte := w.extractLsb' 0 8

/-- `sext_8(n)`: a byte read as two's complement in -128..127 (00_scope R8). -/
def sext8 (n : Byte) : Int := n.toInt

/-- The byte that encodes a displacement (30_encoding R156). -/
def dispByte (e : Int) : Byte := BitVec.ofInt 8 e

/-- A displacement as a 16-bit addend: sums with it wrap modulo 0x10000 (10_state R35). -/
def dispWord (e : Int) : Word := BitVec.ofInt 16 e

/-- The high nibble of an opcode byte: its row in the maps of 30_encoding R170 and R171. -/
def hiNibble (op : Byte) : Nat := op.toNat / 16

/-- The low nibble of an opcode byte: its column in the maps of 30_encoding R170 and R171. -/
def loNibble (op : Byte) : Nat := op.toNat % 16

/-- Bit i of a byte, `v[i]` (00_scope R7). -/
def bitOf (v : Byte) (i : Nat) : Bool := v.getLsbD i

end Sys2Proof.Machine
end

