-- ==== Sys2Proof/Machine/Memory.lean ====
section
/-! DEFINITION. The sparse memory: reading and writing one byte, and the canonical form every operation keeps. -/

namespace Sys2Proof

/-- What an unlisted address reads as: the default of `INIT_RAM`, and the reset value of the I/O file (00_scope R6, 10_state R53, R54).
The spec's own choice (92 D14); unsafe against a chip whose RAM powers up with unknown contents (log entry 2). -/
def Memory.unlisted : Byte := 0x00

/-- The byte at address `a`. -/
def Memory.read : Memory → Nat → Byte
  | [], _ => Memory.unlisted
  | (k, w) :: rest, a => if k = a then w else Memory.read rest a

/-- The list with `(a, v)` in front, or without it where `v` is what an unlisted address reads as. -/
def Memory.cons (a : Nat) (v : Byte) (rest : Memory) : Memory :=
  if v = Memory.unlisted then rest else (a, v) :: rest

/-- Write the byte `v` at address `a`, in canonical form. -/
def Memory.write : Memory → Nat → Byte → Memory
  | [], a, v => Memory.cons a v []
  | (k, w) :: rest, a, v =>
    if a < k then Memory.cons a v ((k, w) :: rest)
    else if a = k then Memory.cons a v rest
    else (k, w) :: Memory.write rest a v

/-- The canonical form: addresses strictly rising, and no entry equal to what an unlisted address reads as. -/
abbrev Memory.wf (m : Memory) : Prop :=
  m.Pairwise (fun c d => c.1 < d.1) ∧ ∀ c ∈ m, c.2 ≠ Memory.unlisted

/-- Write the cells of a list one after the other: from an empty memory, any list of cells in canonical form. -/
def Memory.writeAll (m : Memory) : List Host.Cell → Memory
  | [] => m
  | c :: rest => Memory.writeAll (m.write c.1 c.2) rest

/-- The memory that holds a byte sequence at the offsets from `k` on. -/
def Memory.ofBytes : Nat → List Byte → Memory
  | _, [] => []
  | k, v :: rest => Memory.cons k v (Memory.ofBytes (k + 1) rest)

end Sys2Proof
end

