-- ==== Sys2Proof/Config.lean ====
section
/-! DEFINITION. What an implementation fixes: the named parameters of 00_scope R6, as plain data that the state carries
and no step writes, and the free values, which are opaque constants. -/

namespace Sys2Proof

/-- `ACCESS_BLOCKING` (00_scope R6, 20_memory R105): whether the CPU's VRAM and OAM accesses are blocked in the PPU's modes. -/
inductive AccessBlocking where
  | none
  | hardware
deriving DecidableEq, Repr

/-- The named parameters of 00_scope R6. DESIGN CHOICE, safe (log entry 1): they stand in the state, so a statement about every state
is a statement about every value of every parameter. `CART` is the state's own `cart`; `SHADE_TO_PIXEL` is outside the core. -/
structure Params where
  /-- `TIMER_RELOAD_DELAY`: T-cycles between TIMA's overflow and its reload (60_exceptions R443). -/
  timerReloadDelay : Nat
  /-- `ACCESS_BLOCKING` (20_memory R105). -/
  accessBlocking : AccessBlocking
  /-- `INIT_RAM` for WRAM, HRAM, VRAM and OAM, keyed by bus address (10_state R53). -/
  initRam : Memory
  /-- `INIT_RAM` for the save RAM, keyed by offset into it (20_memory R144). -/
  initSaveRam : Memory
deriving DecidableEq, Repr

/-- The values the parameters take when they are not supplied (00_scope R6). -/
def Params.default : Params :=
  { timerReloadDelay := 4, accessBlocking := .none, initRam := [], initSaveRam := [] }

/-- FREE VALUE (log entry 4): what the bus reads from the cartridge's ranges while no image is loaded. The spec gives no value: no step
runs in that state (60_exceptions R485). No body, so no proof can see it. -/
opaque Config.emptySlot : Word → Byte

/-- FREE VALUE (log entry 11): the colour index of a sprite row outside 0..7, which `TilePixel` of 60_exceptions R452 does not state. It can
arise only where LCDC bit 2 falls between the OAM search and the end of DATA_TRANSFER. Applied to the PPU's counter of
rendered lines, which is the model's own, to LY, the pixel column and the sprite's OAM index. -/
opaque Config.spriteRowOutside : Nat → Byte → Nat → Nat → Shade

/-- FREE VALUE (log entry 18): the save-RAM size in bytes for a size code (header byte 0x149) that 20_memory R144 does not list. -/
opaque Config.saveRamSize : Byte → Nat

end Sys2Proof
end

