-- ==== Sys2Proof/Machine/State.lean ====
section
/-! DEFINITION. The machine's state as plain data, the reasons a step stops, and the state after reset (70_reset_and_hazards R500). -/

namespace Sys2Proof.Machine

/-- The reasons of 10_state R39 and 60_exceptions R405. Each ends the run: no later step exists. -/
inductive Fault where
  /-- One of the 11 bytes with no handler was fetched: the byte and its address (45_misc R369). Raised by the meanings of the
  `illegal_*` constructors. Safe: the machine stops where the spec ends the run. -/
  | illegalOpcode (op : Byte) (a0 : Word)
  /-- STOP was fetched, at this address (45_misc R362). Raised by the meaning of `stop`. Safe: the spec gives STOP no effect. -/
  | stop (a0 : Word)
  /-- HALT ran with IME = 0 and an enabled request pending; the HALT's address (45_misc R361). Raised by the meaning of `halt`.
  Safe: the spec refuses to model the chip's behaviour here. -/
  | haltBug (a0 : Word)
  /-- An interrupt service whose push would write IE; the pc (60_exceptions R402). Raised by the engine's service. Safe: the spec refuses
  the case rather than pick a vector. -/
  | servicePushIE (pc : Word)
deriving DecidableEq, Repr

/-- Why a step is not performed at all. -/
inductive Refusal where
  /-- An instruction with no meaning yet, named as in spec/opcode_table.json. Raised by exec's refused arms only (none in this
  package). Safe. -/
  | notModelled (mnemonic : String)
  /-- No image is loaded, so the core has no step (60_exceptions R485, 70_reset_and_hazards R503). Raised by `step`. Safe. -/
  | noImageLoaded
deriving DecidableEq, Repr

/-- The register file (10_state R30). The pairs AF, BC, DE and HL are views with no storage of their own (R31). -/
structure Regs where
  a : Byte
  /-- The flags: Z 7, N 6, H 5, C 4; bits 3-0 are always 0 (10_state R33). -/
  f : Byte
  b : Byte
  c : Byte
  d : Byte
  e : Byte
  h : Byte
  l : Byte
  sp : Word
  pc : Word
deriving DecidableEq, Repr

/-- The timer's registers and internal state (10_state R42, R43). -/
structure Timer where
  /-- The free-running divider; DIV is its high byte. -/
  div16 : Word
  tima : Byte
  tma : Byte
  /-- TAC bits 2-0: enable and clock select. -/
  tac : BitVec 3
  /-- T-cycles counted toward the next TIMA tick. -/
  tacc : Nat
  /-- T-cycles left until a pending TIMA reload; 0 = none pending. -/
  reloadCd : Nat
deriving DecidableEq, Repr

/-- The PPU's modes; their STAT numbers are 0 to 3 in this order (10_state R45). -/
inductive PpuMode where
  | hblank
  | vblank
  | oamSearch
  | dataTransfer
deriving DecidableEq, Repr

/-- A sprite captured by the OAM search (60_exceptions R451): its X and Y bytes, OAM index, tile and attributes. -/
structure Sprite where
  x : Byte
  index : Nat
  y : Byte
  tile : Byte
  attr : Byte
deriving DecidableEq, Repr

/-- The PPU's registers and internal state (10_state R44 to R49). -/
structure Ppu where
  lcdc : Byte
  /-- STAT bits 6-3, the four interrupt enables: `stat_w` (10_state R45). -/
  statEnables : BitVec 4
  scy : Byte
  scx : Byte
  ly : Byte
  lyc : Byte
  dma : Byte
  bgp : Byte
  obp0 : Byte
  obp1 : Byte
  wy : Byte
  wx : Byte
  mode : PpuMode
  /-- T-cycles spent in the current mode (in the current line, in VBLANK). -/
  dots : Nat
  /-- The window-line counter. -/
  wline : Nat
  winDrawn : Bool
  sprites : List Sprite
  /-- The frame buffer: 144 rows of 160 shades; pixel (x, y) of 10_state R49 is column x of row y. -/
  fb : List (List Shade)
  frameReady : Bool
  /-- The model's own, for the free values of the renderer: the lines rendered since reset. No register and no rule's value comes from it
  (DESIGN CHOICE, log entry 11). -/
  freeDraws : Nat
deriving DecidableEq, Repr

/-- The joypad's select bits (P1 bits 5-4) and button masks, active low (10_state R51, R52). -/
structure Joypad where
  jsel : BitVec 2
  jdir : BitVec 4
  jact : BitVec 4
deriving DecidableEq, Repr

/-- MBC1's bank-select state (20_memory R143). -/
structure Mbc1 where
  ramEn : Bool
  bankLo : BitVec 5
  bankHi : BitVec 2
  bmode : Bool
deriving DecidableEq, Repr

/-- The cartridge's variant, with its bank-select state (20_memory R142, R143). -/
inductive Banking where
  | romOnly
  | mbc1 (b : Mbc1)
deriving DecidableEq, Repr

/-- A loaded cartridge (10_state R55): its variant, program image and save RAM. -/
structure Cart where
  banking : Banking
  imageLen : Nat
  image : Memory
  ramSize : Nat
  ram : Memory
deriving DecidableEq, Repr

/-- The state of the CORE. -/
structure State where
  regs : Regs
  /-- Interrupt master enable (10_state R36). -/
  ime : Bool
  /-- EI has executed and IME has not yet been set (10_state R37). -/
  eiPending : Bool
  halted : Bool
  /-- The terminal fault, if one was raised (10_state R39). -/
  fault : Option Fault
  /-- The interrupt-enable register at FFFF (10_state R40). -/
  ie : Byte
  /-- The five request bits of IF at FF0F (10_state R41). -/
  iflag : BitVec 5
  timer : Timer
  ppu : Ppu
  joy : Joypad
  /-- VRAM, WRAM, OAM, HRAM and the internal I/O file, keyed by bus address (10_state R53; log entry 8). -/
  mem : Memory
  /-- The cartridge; none while no image is loaded (70_reset_and_hazards R503). -/
  cart : Option Cart
  /-- The T-cycles of the engine step in progress and, after it, of the last one: what `step()` returns (00_scope R11,
  60_exceptions R400, R480; log entry 6). -/
  cycles : Nat
  /-- T-cycles consumed since reset (10_state R56). -/
  totalCycles : Nat
  params : Params
deriving DecidableEq, Repr

/-- The register file after reset (10_state R30, R33, R35). -/
def Regs.reset : Regs :=
  { a := 0x01, f := 0xB0, b := 0x00, c := 0x13, d := 0x00, e := 0xD8, h := 0x01, l := 0x4D, sp := 0xFFFE, pc := 0x0100 }

/-- The timer after reset (10_state R42, R43). -/
def Timer.reset : Timer :=
  { div16 := 0xABCC, tima := 0x00, tma := 0x00, tac := 0, tacc := 0, reloadCd := 0 }

/-- The PPU after reset (10_state R44 to R49; `freeDraws` is the model's own, log entry 11). -/
def Ppu.reset : Ppu :=
  { lcdc := 0x91, statEnables := 0, scy := 0x00, scx := 0x00, ly := 0x00, lyc := 0x00, dma := 0xFF, bgp := 0xFC, obp0 := 0xFF,
    obp1 := 0xFF, wy := 0x00, wx := 0x00, mode := .oamSearch, dots := 0, wline := 0, winDrawn := false, sprites := [],
    fb := List.replicate 144 (List.replicate 160 0), frameReady := false, freeDraws := 0 }

/-- The joypad after reset: nothing pressed (10_state R51, R52). -/
def Joypad.reset : Joypad := { jsel := 0, jdir := 0xF, jact := 0xF }

/-- The core state of 70_reset_and_hazards R500 around a given RAM contents, cartridge and set of parameters. -/
def State.resetWith (mem : Memory) (cart : Option Cart) (params : Params) : State :=
  { regs := Regs.reset, ime := false, eiPending := false, halted := false, fault := none, ie := 0x00, iflag := 0b00001,
    timer := Timer.reset, ppu := Ppu.reset, joy := Joypad.reset, mem := mem, cart := cart, cycles := 0, totalCycles := 0,
    params := params }

/-- The machine right after reset, before any load: the state of 70_reset_and_hazards R500 with the parameters at their defaults
and no image loaded (R503; log entry 3). -/
def State.reset : State := State.resetWith [] none Params.default

end Sys2Proof.Machine
end

