-- ==== Sys2Proof/Machine/Cart.lean ====
section
/-! DEFINITION. The cartridge device: the ROM-only and MBC1 variants, and its reads, writes, loading and bank-select reset
(20_memory R140 to R146). -/

namespace Sys2Proof.Machine

/-- MBC1's bank-select state at load and at reset (20_memory R143, R145). -/
def Mbc1.reset : Mbc1 := { ramEn := false, bankLo := 1, bankHi := 0, bmode := false }

/-- The variant with its bank-select state at the reset values (20_memory R142, R143, R145). -/
def Banking.reset : Banking → Banking
  | .romOnly => .romOnly
  | .mbc1 _ => .mbc1 Mbc1.reset

/-- Core reset on the cartridge: the bank-select state is reset, the image and the save RAM are kept (20_memory R145). -/
def Cart.resetBanks (c : Cart) : Cart := { c with banking := c.banking.reset }

/-- The bank MBC1 maps at 0000-3FFF (20_memory R143). -/
def Mbc1.lowBank (b : Mbc1) : Nat := if b.bmode then b.bankHi.toNat * 32 else 0

/-- The bank MBC1 maps at 4000-7FFF: `(bank_hi << 5) | bank_lo` (20_memory R143). -/
def Mbc1.highBank (b : Mbc1) : Nat := b.bankHi.toNat * 32 + b.bankLo.toNat

/-- The offset into the image of a program-store address (20_memory R142, R143); `a` is at most 0x7FFF. -/
def Cart.romOffset (c : Cart) (a : Nat) : Nat :=
  match c.banking with
  | .romOnly => a % c.imageLen
  | .mbc1 b =>
    if a < 0x4000 then (b.lowBank * 0x4000 + a) % c.imageLen
    else (b.highBank * 0x4000 + (a - 0x4000)) % c.imageLen

/-- The offset into the save RAM of a save-RAM address, or none where the window reaches no RAM (20_memory R142, R143, R144). -/
def Cart.ramOffset (c : Cart) (a : Nat) : Option Nat :=
  match c.banking with
  | .romOnly => none
  | .mbc1 b =>
    if b.ramEn && decide (0 < c.ramSize) then
      some (((if b.bmode then b.bankHi.toNat else 0) * 0x2000 + (a - 0xA000)) % c.ramSize)
    else none

/-- `CART.read(a)` for a in 0000-7FFF (20_memory R141 to R143). -/
def Cart.readRom (c : Cart) (a : Nat) : Byte := c.image.read (c.romOffset a)

/-- `CART.read(a)` for a in A000-BFFF (20_memory R144). -/
def Cart.readRam (c : Cart) (a : Nat) : Byte :=
  match c.ramOffset a with
  | some k => c.ram.read k
  | none => 0xFF

/-- MBC1's bank-select registers, written through 0000-7FFF (20_memory R143). -/
def Mbc1.select (b : Mbc1) (a : Nat) (v : Byte) : Mbc1 :=
  if a < 0x2000 then { b with ramEn := decide (v &&& 0x0F = 0x0A) }
  else if a < 0x4000 then
    { b with bankLo := if v.setWidth 5 = (0 : BitVec 5) then 1 else v.setWidth 5 }
  else if a < 0x6000 then { b with bankHi := v.setWidth 2 }
  else { b with bmode := v.getLsbD 0 }

/-- `CART.write(a, v)` for a in 0000-7FFF: dropped, or a bank select; never the image (20_memory R141 to R143). -/
def Cart.writeRom (c : Cart) (a : Nat) (v : Byte) : Cart :=
  match c.banking with
  | .romOnly => c
  | .mbc1 b => { c with banking := .mbc1 (b.select a v) }

/-- `CART.write(a, v)` for a in A000-BFFF (20_memory R144). -/
def Cart.writeRam (c : Cart) (a : Nat) (v : Byte) : Cart :=
  match c.ramOffset a with
  | some k => { c with ram := c.ram.write k v }
  | none => c

/-- The variant that header byte 0x147 selects, or none for an unsupported code (20_memory R146). -/
def bankingOf (code : Byte) : Option Banking :=
  if code = 0x00 then some .romOnly
  else if code = 0x01 ∨ code = 0x02 ∨ code = 0x03 then some (.mbc1 Mbc1.reset)
  else none

/-- The save-RAM size that header byte 0x149 selects (20_memory R144); for a code the rule does not list, a free value (log entry 18). -/
def ramSizeOf (code : Byte) : Nat :=
  if code = 0x00 then 0
  else if code = 0x01 then 0x800
  else if code = 0x02 then 0x2000
  else if code = 0x03 then 0x8000
  else Config.saveRamSize code

/-- The save RAM of a fresh cartridge: `INIT_RAM` cut to the RAM's size (20_memory R144). -/
def initSaveRam (params : Params) (size : Nat) : Memory :=
  Memory.writeAll [] (params.initSaveRam.filter fun c => decide (c.1 < size))

/-- A fresh cartridge for an image, or none where the load fails: an image under 0x150 bytes, or an unsupported banking code
(20_memory R145, R146, 70_reset_and_hazards R503, R504). -/
def Cart.ofImage (params : Params) (image : List Byte) : Option Cart :=
  if image.length < 0x150 then none
  else
    match bankingOf (image.getD 0x147 0) with
    | none => none
    | some banking =>
      let size := match banking with
        | .romOnly => 0
        | .mbc1 _ => ramSizeOf (image.getD 0x149 0)
      some { banking := banking, imageLen := image.length, image := Memory.ofBytes 0 image, ramSize := size,
             ram := initSaveRam params size }

end Sys2Proof.Machine
end

