-- ==== Sys2Proof/Machine/Bus.lean ====
section
/-! DEFINITION. The bus: the address map, the I/O registers, OAM DMA, and the two functions every CPU access goes through
(20_memory R100 to R120). -/

namespace Sys2Proof.Machine

/-- The ranges of the address map (20_memory R100). -/
inductive Region where
  | rom | vram | saveRam | wram | echo | oam | unusable | io | hram | ie
deriving DecidableEq, Repr

/-- The range an address lies in (20_memory R100). -/
def regionOf (a : Word) : Region :=
  if a.toNat < 0x8000 then .rom
  else if a.toNat < 0xA000 then .vram
  else if a.toNat < 0xC000 then .saveRam
  else if a.toNat < 0xE000 then .wram
  else if a.toNat < 0xFE00 then .echo
  else if a.toNat < 0xFEA0 then .oam
  else if a.toNat < 0xFF00 then .unusable
  else if a.toNat < 0xFF80 then .io
  else if a.toNat < 0xFFFF then .hram
  else .ie

/-- The device registers of the I/O region; every other address of it is a byte of the internal file (20_memory R110, R112). -/
inductive IoReg where
  | p1 | div | tima | tma | tac | iflag | lcdc | stat | scy | scx | ly | lyc | dma | bgp | obp0 | obp1 | wy | wx | file
deriving DecidableEq, Repr

/-- The register at an address of the I/O region, by exact address (20_memory R110). -/
def ioRegOf (a : Word) : IoReg :=
  if a = 0xFF00 then .p1
  else if a = 0xFF04 then .div
  else if a = 0xFF05 then .tima
  else if a = 0xFF06 then .tma
  else if a = 0xFF07 then .tac
  else if a = 0xFF0F then .iflag
  else if a = 0xFF40 then .lcdc
  else if a = 0xFF41 then .stat
  else if a = 0xFF42 then .scy
  else if a = 0xFF43 then .scx
  else if a = 0xFF44 then .ly
  else if a = 0xFF45 then .lyc
  else if a = 0xFF46 then .dma
  else if a = 0xFF47 then .bgp
  else if a = 0xFF48 then .obp0
  else if a = 0xFF49 then .obp1
  else if a = 0xFF4A then .wy
  else if a = 0xFF4B then .wx
  else .file

/-- `modebits(mode)`: the mode's number in STAT bits 1-0 (10_state R45). -/
def PpuMode.bits : PpuMode → BitVec 2
  | .hblank => 0
  | .vblank => 1
  | .oamSearch => 2
  | .dataTransfer => 3

/-- Whether the LCD is on: LCDC bit 7 (10_state R44). -/
def Ppu.lcdOn (p : Ppu) : Bool := bitOf p.lcdc 7

/-- What P1 reads: the select bits, and the AND of the selected groups' lines (10_state R51). -/
def Joypad.readP1 (j : Joypad) : Byte :=
  let dir := if j.jsel.getLsbD 0 then 0xF else j.jdir
  let act := if j.jsel.getLsbD 1 then 0xF else j.jact
  (0b11 : BitVec 2) ++ j.jsel ++ (dir &&& act)

/-- What STAT reads: bit 7 = 1, the enables, LY = LYC as it is now, the mode (10_state R45). -/
def Ppu.readStat (p : Ppu) : Byte :=
  (0b1 : BitVec 1) ++ p.statEnables ++ BitVec.ofBool (decide (p.ly = p.lyc)) ++ p.mode.bits

/-- `blocked_vram()` (20_memory R105). -/
def State.vramBlocked (s : State) : Bool :=
  decide (s.params.accessBlocking = .hardware) && s.ppu.lcdOn && decide (s.ppu.mode = .dataTransfer)

/-- `blocked_oam()` (20_memory R105). -/
def State.oamBlocked (s : State) : Bool :=
  decide (s.params.accessBlocking = .hardware) && s.ppu.lcdOn &&
    (decide (s.ppu.mode = .oamSearch) || decide (s.ppu.mode = .dataTransfer))

/-- `IoRead(a)` (20_memory R110, R112). -/
def State.ioRead (s : State) (a : Word) : Byte :=
  match ioRegOf a with
  | .p1 => s.joy.readP1
  | .div => hiByte s.timer.div16
  | .tima => s.timer.tima
  | .tma => s.timer.tma
  | .tac => (0b11111 : BitVec 5) ++ s.timer.tac
  | .iflag => (0b111 : BitVec 3) ++ s.iflag
  | .lcdc => s.ppu.lcdc
  | .stat => s.ppu.readStat
  | .scy => s.ppu.scy
  | .scx => s.ppu.scx
  | .ly => s.ppu.ly
  | .lyc => s.ppu.lyc
  | .dma => s.ppu.dma
  | .bgp => s.ppu.bgp
  | .obp0 => s.ppu.obp0
  | .obp1 => s.ppu.obp1
  | .wy => s.ppu.wy
  | .wx => s.ppu.wx
  | .file => s.mem.read a.toNat

/-- The cartridge's program store on the bus. With no image loaded no step exists (60_exceptions R485): a free value (log entry 4). -/
def State.romRead (s : State) (a : Word) : Byte :=
  match s.cart with
  | some c => c.readRom a.toNat
  | none => Config.emptySlot a

/-- The cartridge's save RAM on the bus; with no image loaded, a free value (log entry 4). -/
def State.saveRamRead (s : State) (a : Word) : Byte :=
  match s.cart with
  | some c => c.readRam a.toNat
  | none => Config.emptySlot a

/-- `BusRead(a)`: the byte every CPU access, fetch and DMA read gets (20_memory R100). It changes nothing (R128). -/
def State.busRead (s : State) (a : Word) : Byte :=
  match regionOf a with
  | .rom => s.romRead a
  | .vram => if s.vramBlocked then 0xFF else s.mem.read a.toNat
  | .saveRam => s.saveRamRead a
  | .wram => s.mem.read a.toNat
  | .echo => s.mem.read (a.toNat - 0x2000)
  | .oam => if s.oamBlocked then 0xFF else s.mem.read a.toNat
  | .unusable => 0xFF
  | .io => s.ioRead a
  | .hram => s.mem.read a.toNat
  | .ie => s.ie

/-- Store a byte at a bus address of the store that holds VRAM, WRAM, OAM, HRAM and the I/O file (10_state R53). -/
def State.poke (s : State) (a : Nat) (v : Byte) : State := { s with mem := s.mem.write a v }

/-- Replace the cartridge by what `f` makes of it. -/
def State.mapCart (s : State) (f : Cart → Cart) : State := { s with cart := s.cart.map f }

/-- Replace the PPU's registers and state by what `f` makes of them. -/
def State.mapPpu (s : State) (f : Ppu → Ppu) : State := { s with ppu := f s.ppu }

/-- Replace the timer's registers and state by what `f` makes of them. -/
def State.mapTimer (s : State) (f : Timer → Timer) : State := { s with timer := f s.timer }

/-- A write to LCDC: a change of bit 7 stops the PPU at line 0 in HBLANK, or starts it at line 0 in OAM_SEARCH (60_exceptions R461). -/
def Ppu.writeLcdc (p : Ppu) (v : Byte) : Ppu :=
  if p.lcdOn && !bitOf v 7 then
    { p with lcdc := v, ly := 0, dots := 0, mode := .hblank, wline := 0, winDrawn := false }
  else if !p.lcdOn && bitOf v 7 then
    { p with lcdc := v, ly := 0, dots := 0, mode := .oamSearch, wline := 0, winDrawn := false }
  else { p with lcdc := v }

/-- The copy of OAM DMA: the `n` bytes from `base + k` on go to OAM from its byte `k` on, each read through the bus when its turn
comes (20_memory R120). -/
def State.dmaCopy (base : Nat) : Nat → Nat → State → State
  | 0, _, s => s
  | n + 1, k, s =>
    State.dmaCopy base n (k + 1) (s.poke (0xFE00 + k) (s.busRead (BitVec.ofNat 16 (base + k))))

/-- A write of `v` to DMA: store it, then copy 160 bytes from `v * 256` into OAM (20_memory R120). -/
def State.dmaWrite (s : State) (v : Byte) : State :=
  State.dmaCopy (v.toNat * 256) 160 0 (s.mapPpu fun p => { p with dma := v })

/-- `IoWrite(a, v)` (20_memory R110, R111, R112; 60_exceptions R441, R444, R445, R461). -/
def State.ioWrite (s : State) (a : Word) (v : Byte) : State :=
  match ioRegOf a with
  | .p1 => { s with joy := { s.joy with jsel := v.extractLsb' 4 2 } }
  | .div => s.mapTimer fun t => { t with div16 := 0 }
  | .tima => s.mapTimer fun t => { t with tima := v, reloadCd := 0 }
  | .tma => s.mapTimer fun t => { t with tma := v }
  | .tac => s.mapTimer fun t => { t with tac := v.setWidth 3, tacc := 0 }
  | .iflag => { s with iflag := v.setWidth 5 }
  | .lcdc => s.mapPpu fun p => p.writeLcdc v
  | .stat => s.mapPpu fun p => { p with statEnables := v.extractLsb' 3 4 }
  | .scy => s.mapPpu fun p => { p with scy := v }
  | .scx => s.mapPpu fun p => { p with scx := v }
  | .ly => s
  | .lyc => s.mapPpu fun p => { p with lyc := v }
  | .dma => s.dmaWrite v
  | .bgp => s.mapPpu fun p => { p with bgp := v }
  | .obp0 => s.mapPpu fun p => { p with obp0 := v }
  | .obp1 => s.mapPpu fun p => { p with obp1 := v }
  | .wy => s.mapPpu fun p => { p with wy := v }
  | .wx => s.mapPpu fun p => { p with wx := v }
  | .file => s.poke a.toNat v

/-- `BusWrite(a, v)` (20_memory R101). -/
def State.busWrite (s : State) (a : Word) (v : Byte) : State :=
  match regionOf a with
  | .rom => s.mapCart fun c => c.writeRom a.toNat v
  | .vram => if s.vramBlocked then s else s.poke a.toNat v
  | .saveRam => s.mapCart fun c => c.writeRam a.toNat v
  | .wram => s.poke a.toNat v
  | .echo => s.poke (a.toNat - 0x2000) v
  | .oam => if s.oamBlocked then s else s.poke a.toNat v
  | .unusable => s
  | .io => s.ioWrite a v
  | .hram => s.poke a.toNat v
  | .ie => { s with ie := v }

end Sys2Proof.Machine
end

