-- ==== Sys2Proof/Syntax.lean ====
section
/-! DEFINITION. The instructions: one constructor for each of the 511 rows of spec/opcode_table.json (30_encoding R170, R171), the
operand enumerations, and the families that gather the constructors of one rule by their operands. -/

namespace Sys2Proof

/-- The 8-bit registers of the selector table (30_encoding R152); selector 6, (HL), is `Operand8.atHL`. -/
inductive Reg8 where
  | b | c | d | e | h | l | a
deriving DecidableEq, Repr

/-- The pair table `rp` (30_encoding R153). -/
inductive Reg16 where
  | bc | de | hl | sp
deriving DecidableEq, Repr

/-- The stack-pair table `rp2` (30_encoding R153). -/
inductive StackReg where
  | bc | de | hl | af
deriving DecidableEq, Repr

/-- The condition codes (30_encoding R154). -/
inductive Cond where
  | nz | z | nc | c
deriving DecidableEq, Repr

/-- An 8-bit operand of the selector table: a register, or the memory byte at HL (30_encoding R152). -/
inductive Operand8 where
  | reg (r : Reg8)
  | atHL
deriving DecidableEq, Repr

/-- The eight 8-bit operations on A, in the order of ALU[y] (30_encoding R170, 43_alu R301 to R308). -/
inductive AluOp where
  | add | adc | sub | sbc | and | xor | or | cp
deriving DecidableEq, Repr

/-- The eight CB rotates and shifts, in the order of y (30_encoding R171, 44_rotate_shift R335 to R342). -/
inductive RotOp where
  | rlc | rrc | rl | rr | sla | sra | swap | srl
deriving DecidableEq, Repr

/-- The register's selector code (30_encoding R152). -/
def Reg8.sel : Reg8 → Nat
  | .b => 0 | .c => 1 | .d => 2 | .e => 3 | .h => 4 | .l => 5 | .a => 7

/-- The operand's selector code: 6 is (HL) (30_encoding R152). -/
def Operand8.sel : Operand8 → Nat
  | .reg r => r.sel
  | .atHL => 6

/-- The pair's code in `rp` (30_encoding R153). -/
def Reg16.sel : Reg16 → Nat
  | .bc => 0 | .de => 1 | .hl => 2 | .sp => 3

/-- The pair's code in `rp2` (30_encoding R153). -/
def StackReg.sel : StackReg → Nat
  | .bc => 0 | .de => 1 | .hl => 2 | .af => 3

/-- The condition's code (30_encoding R154). -/
def Cond.sel : Cond → Nat
  | .nz => 0 | .z => 1 | .nc => 2 | .c => 3

/-- The operation's code y (30_encoding R170). -/
def AluOp.sel : AluOp → Nat
  | .add => 0 | .adc => 1 | .sub => 2 | .sbc => 3 | .and => 4 | .xor => 5 | .or => 6 | .cp => 7

/-- The operation's code y (30_encoding R171). -/
def RotOp.sel : RotOp → Nat
  | .rlc => 0 | .rrc => 1 | .rl => 2 | .rr => 3 | .sla => 4 | .sra => 5 | .swap => 6 | .srl => 7

/-- The instructions. A constructor carries the immediate of its row: n a byte, nn a little-endian word, e a signed displacement
(log entry 12); STOP carries its second byte, which nothing reads (30_encoding R176). The rows with an immediate stand first, then the
others, each in the table's order. -/
inductive Instr where
  | ld_BC_nn (nn : Word)
  | ld_B_n (n : Byte)
  | ld_atNn_SP (nn : Word)
  | ld_C_n (n : Byte)
  | stop (n : Byte)
  | ld_DE_nn (nn : Word)
  | ld_D_n (n : Byte)
  | jr_e (e : Int)
  | ld_E_n (n : Byte)
  | jr_NZ_e (e : Int)
  | ld_HL_nn (nn : Word)
  | ld_H_n (n : Byte)
  | jr_Z_e (e : Int)
  | ld_L_n (n : Byte)
  | jr_NC_e (e : Int)
  | ld_SP_nn (nn : Word)
  | ld_atHL_n (n : Byte)
  | jr_C_e (e : Int)
  | ld_A_n (n : Byte)
  | jp_NZ_nn (nn : Word)
  | jp_nn (nn : Word)
  | call_NZ_nn (nn : Word)
  | add_A_n (n : Byte)
  | jp_Z_nn (nn : Word)
  | call_Z_nn (nn : Word)
  | call_nn (nn : Word)
  | adc_A_n (n : Byte)
  | jp_NC_nn (nn : Word)
  | call_NC_nn (nn : Word)
  | sub_A_n (n : Byte)
  | jp_C_nn (nn : Word)
  | call_C_nn (nn : Word)
  | sbc_A_n (n : Byte)
  | ldh_atN_A (n : Byte)
  | and_A_n (n : Byte)
  | add_SP_e (e : Int)
  | ld_atNn_A (nn : Word)
  | xor_A_n (n : Byte)
  | ldh_A_atN (n : Byte)
  | or_A_n (n : Byte)
  | ld_HL_SPplusE (e : Int)
  | ld_A_atNn (nn : Word)
  | cp_A_n (n : Byte)
  | nop | ld_atBC_A | inc_BC | inc_B | dec_B | rlca | add_HL_BC | ld_A_atBC
  | dec_BC | inc_C | dec_C | rrca | ld_atDE_A | inc_DE | inc_D | dec_D
  | rla | add_HL_DE | ld_A_atDE | dec_DE | inc_E | dec_E | rra | ld_atHLinc_A
  | inc_HL | inc_H | dec_H | daa | add_HL_HL | ld_A_atHLinc | dec_HL | inc_L
  | dec_L | cpl | ld_atHLdec_A | inc_SP | inc_atHL | dec_atHL | scf | add_HL_SP
  | ld_A_atHLdec | dec_SP | inc_A | dec_A | ccf | ld_B_B | ld_B_C | ld_B_D
  | ld_B_E | ld_B_H | ld_B_L | ld_B_atHL | ld_B_A | ld_C_B | ld_C_C | ld_C_D
  | ld_C_E | ld_C_H | ld_C_L | ld_C_atHL | ld_C_A | ld_D_B | ld_D_C | ld_D_D
  | ld_D_E | ld_D_H | ld_D_L | ld_D_atHL | ld_D_A | ld_E_B | ld_E_C | ld_E_D
  | ld_E_E | ld_E_H | ld_E_L | ld_E_atHL | ld_E_A | ld_H_B | ld_H_C | ld_H_D
  | ld_H_E | ld_H_H | ld_H_L | ld_H_atHL | ld_H_A | ld_L_B | ld_L_C | ld_L_D
  | ld_L_E | ld_L_H | ld_L_L | ld_L_atHL | ld_L_A | ld_atHL_B | ld_atHL_C | ld_atHL_D
  | ld_atHL_E | ld_atHL_H | ld_atHL_L | halt | ld_atHL_A | ld_A_B | ld_A_C | ld_A_D
  | ld_A_E | ld_A_H | ld_A_L | ld_A_atHL | ld_A_A | add_A_B | add_A_C | add_A_D
  | add_A_E | add_A_H | add_A_L | add_A_atHL | add_A_A | adc_A_B | adc_A_C | adc_A_D
  | adc_A_E | adc_A_H | adc_A_L | adc_A_atHL | adc_A_A | sub_A_B | sub_A_C | sub_A_D
  | sub_A_E | sub_A_H | sub_A_L | sub_A_atHL | sub_A_A | sbc_A_B | sbc_A_C | sbc_A_D
  | sbc_A_E | sbc_A_H | sbc_A_L | sbc_A_atHL | sbc_A_A | and_A_B | and_A_C | and_A_D
  | and_A_E | and_A_H | and_A_L | and_A_atHL | and_A_A | xor_A_B | xor_A_C | xor_A_D
  | xor_A_E | xor_A_H | xor_A_L | xor_A_atHL | xor_A_A | or_A_B | or_A_C | or_A_D
  | or_A_E | or_A_H | or_A_L | or_A_atHL | or_A_A | cp_A_B | cp_A_C | cp_A_D
  | cp_A_E | cp_A_H | cp_A_L | cp_A_atHL | cp_A_A | ret_NZ | pop_BC | push_BC
  | rst_00H | ret_Z | ret | rst_08H | ret_NC | pop_DE | illegal_D3 | push_DE
  | rst_10H | ret_C | reti | illegal_DB | illegal_DD | rst_18H | pop_HL | ld_atC_A
  | illegal_E3 | illegal_E4 | push_HL | rst_20H | jp_HL | illegal_EB | illegal_EC | illegal_ED
  | rst_28H | pop_AF | ld_A_atC | di | illegal_F4 | push_AF | rst_30H | ld_SP_HL
  | ei | illegal_FC | illegal_FD | rst_38H | rlc_B | rlc_C | rlc_D | rlc_E
  | rlc_H | rlc_L | rlc_atHL | rlc_A | rrc_B | rrc_C | rrc_D | rrc_E
  | rrc_H | rrc_L | rrc_atHL | rrc_A | rl_B | rl_C | rl_D | rl_E
  | rl_H | rl_L | rl_atHL | rl_A | rr_B | rr_C | rr_D | rr_E
  | rr_H | rr_L | rr_atHL | rr_A | sla_B | sla_C | sla_D | sla_E
  | sla_H | sla_L | sla_atHL | sla_A | sra_B | sra_C | sra_D | sra_E
  | sra_H | sra_L | sra_atHL | sra_A | swap_B | swap_C | swap_D | swap_E
  | swap_H | swap_L | swap_atHL | swap_A | srl_B | srl_C | srl_D | srl_E
  | srl_H | srl_L | srl_atHL | srl_A | bit_0_B | bit_0_C | bit_0_D | bit_0_E
  | bit_0_H | bit_0_L | bit_0_atHL | bit_0_A | bit_1_B | bit_1_C | bit_1_D | bit_1_E
  | bit_1_H | bit_1_L | bit_1_atHL | bit_1_A | bit_2_B | bit_2_C | bit_2_D | bit_2_E
  | bit_2_H | bit_2_L | bit_2_atHL | bit_2_A | bit_3_B | bit_3_C | bit_3_D | bit_3_E
  | bit_3_H | bit_3_L | bit_3_atHL | bit_3_A | bit_4_B | bit_4_C | bit_4_D | bit_4_E
  | bit_4_H | bit_4_L | bit_4_atHL | bit_4_A | bit_5_B | bit_5_C | bit_5_D | bit_5_E
  | bit_5_H | bit_5_L | bit_5_atHL | bit_5_A | bit_6_B | bit_6_C | bit_6_D | bit_6_E
  | bit_6_H | bit_6_L | bit_6_atHL | bit_6_A | bit_7_B | bit_7_C | bit_7_D | bit_7_E
  | bit_7_H | bit_7_L | bit_7_atHL | bit_7_A | res_0_B | res_0_C | res_0_D | res_0_E
  | res_0_H | res_0_L | res_0_atHL | res_0_A | res_1_B | res_1_C | res_1_D | res_1_E
  | res_1_H | res_1_L | res_1_atHL | res_1_A | res_2_B | res_2_C | res_2_D | res_2_E
  | res_2_H | res_2_L | res_2_atHL | res_2_A | res_3_B | res_3_C | res_3_D | res_3_E
  | res_3_H | res_3_L | res_3_atHL | res_3_A | res_4_B | res_4_C | res_4_D | res_4_E
  | res_4_H | res_4_L | res_4_atHL | res_4_A | res_5_B | res_5_C | res_5_D | res_5_E
  | res_5_H | res_5_L | res_5_atHL | res_5_A | res_6_B | res_6_C | res_6_D | res_6_E
  | res_6_H | res_6_L | res_6_atHL | res_6_A | res_7_B | res_7_C | res_7_D | res_7_E
  | res_7_H | res_7_L | res_7_atHL | res_7_A | set_0_B | set_0_C | set_0_D | set_0_E
  | set_0_H | set_0_L | set_0_atHL | set_0_A | set_1_B | set_1_C | set_1_D | set_1_E
  | set_1_H | set_1_L | set_1_atHL | set_1_A | set_2_B | set_2_C | set_2_D | set_2_E
  | set_2_H | set_2_L | set_2_atHL | set_2_A | set_3_B | set_3_C | set_3_D | set_3_E
  | set_3_H | set_3_L | set_3_atHL | set_3_A | set_4_B | set_4_C | set_4_D | set_4_E
  | set_4_H | set_4_L | set_4_atHL | set_4_A | set_5_B | set_5_C | set_5_D | set_5_E
  | set_5_H | set_5_L | set_5_atHL | set_5_A | set_6_B | set_6_C | set_6_D | set_6_E
  | set_6_H | set_6_L | set_6_atHL | set_6_A | set_7_B | set_7_C | set_7_D | set_7_E
  | set_7_H | set_7_L | set_7_atHL | set_7_A
deriving DecidableEq, Repr

/-- LD r,r' (40_load R201). -/
def Instr.ldRegReg (dst r : Reg8) : Instr :=
  match dst, r with
  | .b, .b => .ld_B_B
  | .b, .c => .ld_B_C
  | .b, .d => .ld_B_D
  | .b, .e => .ld_B_E
  | .b, .h => .ld_B_H
  | .b, .l => .ld_B_L
  | .b, .a => .ld_B_A
  | .c, .b => .ld_C_B
  | .c, .c => .ld_C_C
  | .c, .d => .ld_C_D
  | .c, .e => .ld_C_E
  | .c, .h => .ld_C_H
  | .c, .l => .ld_C_L
  | .c, .a => .ld_C_A
  | .d, .b => .ld_D_B
  | .d, .c => .ld_D_C
  | .d, .d => .ld_D_D
  | .d, .e => .ld_D_E
  | .d, .h => .ld_D_H
  | .d, .l => .ld_D_L
  | .d, .a => .ld_D_A
  | .e, .b => .ld_E_B
  | .e, .c => .ld_E_C
  | .e, .d => .ld_E_D
  | .e, .e => .ld_E_E
  | .e, .h => .ld_E_H
  | .e, .l => .ld_E_L
  | .e, .a => .ld_E_A
  | .h, .b => .ld_H_B
  | .h, .c => .ld_H_C
  | .h, .d => .ld_H_D
  | .h, .e => .ld_H_E
  | .h, .h => .ld_H_H
  | .h, .l => .ld_H_L
  | .h, .a => .ld_H_A
  | .l, .b => .ld_L_B
  | .l, .c => .ld_L_C
  | .l, .d => .ld_L_D
  | .l, .e => .ld_L_E
  | .l, .h => .ld_L_H
  | .l, .l => .ld_L_L
  | .l, .a => .ld_L_A
  | .a, .b => .ld_A_B
  | .a, .c => .ld_A_C
  | .a, .d => .ld_A_D
  | .a, .e => .ld_A_E
  | .a, .h => .ld_A_H
  | .a, .l => .ld_A_L
  | .a, .a => .ld_A_A

/-- LD r,n (40_load R202). -/
def Instr.ldRegImm (dst : Reg8) (n : Byte) : Instr :=
  match dst with
  | .b => .ld_B_n n
  | .c => .ld_C_n n
  | .d => .ld_D_n n
  | .e => .ld_E_n n
  | .h => .ld_H_n n
  | .l => .ld_L_n n
  | .a => .ld_A_n n

/-- LD r,(HL) (40_load R203). -/
def Instr.ldRegAtHL (dst : Reg8) : Instr :=
  match dst with
  | .b => .ld_B_atHL
  | .c => .ld_C_atHL
  | .d => .ld_D_atHL
  | .e => .ld_E_atHL
  | .h => .ld_H_atHL
  | .l => .ld_L_atHL
  | .a => .ld_A_atHL

/-- LD (HL),r (40_load R204). -/
def Instr.ldAtHLReg (r : Reg8) : Instr :=
  match r with
  | .b => .ld_atHL_B
  | .c => .ld_atHL_C
  | .d => .ld_atHL_D
  | .e => .ld_atHL_E
  | .h => .ld_atHL_H
  | .l => .ld_atHL_L
  | .a => .ld_atHL_A

/-- LD rr,nn (40_load R220). -/
def Instr.ldPairImm (p : Reg16) (nn : Word) : Instr :=
  match p with
  | .bc => .ld_BC_nn nn
  | .de => .ld_DE_nn nn
  | .hl => .ld_HL_nn nn
  | .sp => .ld_SP_nn nn

/-- PUSH rr (40_load R224). -/
def Instr.pushPair (q : StackReg) : Instr :=
  match q with
  | .bc => .push_BC
  | .de => .push_DE
  | .hl => .push_HL
  | .af => .push_AF

/-- POP rr and POP AF (40_load R225, R226). -/
def Instr.popPair (q : StackReg) : Instr :=
  match q with
  | .bc => .pop_BC
  | .de => .pop_DE
  | .hl => .pop_HL
  | .af => .pop_AF

/-- JP cc,nn (41_control R251). -/
def Instr.jpCond (cc : Cond) (nn : Word) : Instr :=
  match cc with
  | .nz => .jp_NZ_nn nn
  | .z => .jp_Z_nn nn
  | .nc => .jp_NC_nn nn
  | .c => .jp_C_nn nn

/-- JR cc,e (41_control R254). -/
def Instr.jrCond (cc : Cond) (e : Int) : Instr :=
  match cc with
  | .nz => .jr_NZ_e e
  | .z => .jr_Z_e e
  | .nc => .jr_NC_e e
  | .c => .jr_C_e e

/-- CALL cc,nn (41_control R256). -/
def Instr.callCond (cc : Cond) (nn : Word) : Instr :=
  match cc with
  | .nz => .call_NZ_nn nn
  | .z => .call_Z_nn nn
  | .nc => .call_NC_nn nn
  | .c => .call_C_nn nn

/-- RET cc (41_control R258). -/
def Instr.retCond (cc : Cond) : Instr :=
  match cc with
  | .nz => .ret_NZ
  | .z => .ret_Z
  | .nc => .ret_NC
  | .c => .ret_C

/-- RST t, t = 8*y (41_control R260). -/
def Instr.rst (y : Fin 8) : Instr :=
  match y with
  | 0 => .rst_00H
  | 1 => .rst_08H
  | 2 => .rst_10H
  | 3 => .rst_18H
  | 4 => .rst_20H
  | 5 => .rst_28H
  | 6 => .rst_30H
  | 7 => .rst_38H

/-- INC r (42_incdec R280). -/
def Instr.incReg (r : Reg8) : Instr :=
  match r with
  | .b => .inc_B
  | .c => .inc_C
  | .d => .inc_D
  | .e => .inc_E
  | .h => .inc_H
  | .l => .inc_L
  | .a => .inc_A

/-- DEC r (42_incdec R281). -/
def Instr.decReg (r : Reg8) : Instr :=
  match r with
  | .b => .dec_B
  | .c => .dec_C
  | .d => .dec_D
  | .e => .dec_E
  | .h => .dec_H
  | .l => .dec_L
  | .a => .dec_A

/-- INC rr (42_incdec R284). -/
def Instr.incPair (p : Reg16) : Instr :=
  match p with
  | .bc => .inc_BC
  | .de => .inc_DE
  | .hl => .inc_HL
  | .sp => .inc_SP

/-- DEC rr (42_incdec R285). -/
def Instr.decPair (p : Reg16) : Instr :=
  match p with
  | .bc => .dec_BC
  | .de => .dec_DE
  | .hl => .dec_HL
  | .sp => .dec_SP

/-- The eight operations on A with a register or (HL) operand (43_alu R301 to R308). -/
def Instr.alu (op : AluOp) (o : Operand8) : Instr :=
  match op, o with
  | .add, (.reg .b) => .add_A_B
  | .add, (.reg .c) => .add_A_C
  | .add, (.reg .d) => .add_A_D
  | .add, (.reg .e) => .add_A_E
  | .add, (.reg .h) => .add_A_H
  | .add, (.reg .l) => .add_A_L
  | .add, (.reg .a) => .add_A_A
  | .add, .atHL => .add_A_atHL
  | .adc, (.reg .b) => .adc_A_B
  | .adc, (.reg .c) => .adc_A_C
  | .adc, (.reg .d) => .adc_A_D
  | .adc, (.reg .e) => .adc_A_E
  | .adc, (.reg .h) => .adc_A_H
  | .adc, (.reg .l) => .adc_A_L
  | .adc, (.reg .a) => .adc_A_A
  | .adc, .atHL => .adc_A_atHL
  | .sub, (.reg .b) => .sub_A_B
  | .sub, (.reg .c) => .sub_A_C
  | .sub, (.reg .d) => .sub_A_D
  | .sub, (.reg .e) => .sub_A_E
  | .sub, (.reg .h) => .sub_A_H
  | .sub, (.reg .l) => .sub_A_L
  | .sub, (.reg .a) => .sub_A_A
  | .sub, .atHL => .sub_A_atHL
  | .sbc, (.reg .b) => .sbc_A_B
  | .sbc, (.reg .c) => .sbc_A_C
  | .sbc, (.reg .d) => .sbc_A_D
  | .sbc, (.reg .e) => .sbc_A_E
  | .sbc, (.reg .h) => .sbc_A_H
  | .sbc, (.reg .l) => .sbc_A_L
  | .sbc, (.reg .a) => .sbc_A_A
  | .sbc, .atHL => .sbc_A_atHL
  | .and, (.reg .b) => .and_A_B
  | .and, (.reg .c) => .and_A_C
  | .and, (.reg .d) => .and_A_D
  | .and, (.reg .e) => .and_A_E
  | .and, (.reg .h) => .and_A_H
  | .and, (.reg .l) => .and_A_L
  | .and, (.reg .a) => .and_A_A
  | .and, .atHL => .and_A_atHL
  | .xor, (.reg .b) => .xor_A_B
  | .xor, (.reg .c) => .xor_A_C
  | .xor, (.reg .d) => .xor_A_D
  | .xor, (.reg .e) => .xor_A_E
  | .xor, (.reg .h) => .xor_A_H
  | .xor, (.reg .l) => .xor_A_L
  | .xor, (.reg .a) => .xor_A_A
  | .xor, .atHL => .xor_A_atHL
  | .or, (.reg .b) => .or_A_B
  | .or, (.reg .c) => .or_A_C
  | .or, (.reg .d) => .or_A_D
  | .or, (.reg .e) => .or_A_E
  | .or, (.reg .h) => .or_A_H
  | .or, (.reg .l) => .or_A_L
  | .or, (.reg .a) => .or_A_A
  | .or, .atHL => .or_A_atHL
  | .cp, (.reg .b) => .cp_A_B
  | .cp, (.reg .c) => .cp_A_C
  | .cp, (.reg .d) => .cp_A_D
  | .cp, (.reg .e) => .cp_A_E
  | .cp, (.reg .h) => .cp_A_H
  | .cp, (.reg .l) => .cp_A_L
  | .cp, (.reg .a) => .cp_A_A
  | .cp, .atHL => .cp_A_atHL

/-- The eight operations on A with an immediate operand (43_alu R301 to R308). -/
def Instr.aluImm (op : AluOp) (n : Byte) : Instr :=
  match op with
  | .add => .add_A_n n
  | .adc => .adc_A_n n
  | .sub => .sub_A_n n
  | .sbc => .sbc_A_n n
  | .and => .and_A_n n
  | .xor => .xor_A_n n
  | .or => .or_A_n n
  | .cp => .cp_A_n n

/-- ADD HL,rr (43_alu R310). -/
def Instr.addHL (p : Reg16) : Instr :=
  match p with
  | .bc => .add_HL_BC
  | .de => .add_HL_DE
  | .hl => .add_HL_HL
  | .sp => .add_HL_SP

/-- The CB rotates and shifts (44_rotate_shift R335 to R342). -/
def Instr.rot (op : RotOp) (o : Operand8) : Instr :=
  match op, o with
  | .rlc, (.reg .b) => .rlc_B
  | .rlc, (.reg .c) => .rlc_C
  | .rlc, (.reg .d) => .rlc_D
  | .rlc, (.reg .e) => .rlc_E
  | .rlc, (.reg .h) => .rlc_H
  | .rlc, (.reg .l) => .rlc_L
  | .rlc, (.reg .a) => .rlc_A
  | .rlc, .atHL => .rlc_atHL
  | .rrc, (.reg .b) => .rrc_B
  | .rrc, (.reg .c) => .rrc_C
  | .rrc, (.reg .d) => .rrc_D
  | .rrc, (.reg .e) => .rrc_E
  | .rrc, (.reg .h) => .rrc_H
  | .rrc, (.reg .l) => .rrc_L
  | .rrc, (.reg .a) => .rrc_A
  | .rrc, .atHL => .rrc_atHL
  | .rl, (.reg .b) => .rl_B
  | .rl, (.reg .c) => .rl_C
  | .rl, (.reg .d) => .rl_D
  | .rl, (.reg .e) => .rl_E
  | .rl, (.reg .h) => .rl_H
  | .rl, (.reg .l) => .rl_L
  | .rl, (.reg .a) => .rl_A
  | .rl, .atHL => .rl_atHL
  | .rr, (.reg .b) => .rr_B
  | .rr, (.reg .c) => .rr_C
  | .rr, (.reg .d) => .rr_D
  | .rr, (.reg .e) => .rr_E
  | .rr, (.reg .h) => .rr_H
  | .rr, (.reg .l) => .rr_L
  | .rr, (.reg .a) => .rr_A
  | .rr, .atHL => .rr_atHL
  | .sla, (.reg .b) => .sla_B
  | .sla, (.reg .c) => .sla_C
  | .sla, (.reg .d) => .sla_D
  | .sla, (.reg .e) => .sla_E
  | .sla, (.reg .h) => .sla_H
  | .sla, (.reg .l) => .sla_L
  | .sla, (.reg .a) => .sla_A
  | .sla, .atHL => .sla_atHL
  | .sra, (.reg .b) => .sra_B
  | .sra, (.reg .c) => .sra_C
  | .sra, (.reg .d) => .sra_D
  | .sra, (.reg .e) => .sra_E
  | .sra, (.reg .h) => .sra_H
  | .sra, (.reg .l) => .sra_L
  | .sra, (.reg .a) => .sra_A
  | .sra, .atHL => .sra_atHL
  | .swap, (.reg .b) => .swap_B
  | .swap, (.reg .c) => .swap_C
  | .swap, (.reg .d) => .swap_D
  | .swap, (.reg .e) => .swap_E
  | .swap, (.reg .h) => .swap_H
  | .swap, (.reg .l) => .swap_L
  | .swap, (.reg .a) => .swap_A
  | .swap, .atHL => .swap_atHL
  | .srl, (.reg .b) => .srl_B
  | .srl, (.reg .c) => .srl_C
  | .srl, (.reg .d) => .srl_D
  | .srl, (.reg .e) => .srl_E
  | .srl, (.reg .h) => .srl_H
  | .srl, (.reg .l) => .srl_L
  | .srl, (.reg .a) => .srl_A
  | .srl, .atHL => .srl_atHL

/-- BIT b (44_rotate_shift R343). -/
def Instr.bitTest (b : Fin 8) (o : Operand8) : Instr :=
  match b, o with
  | 0, (.reg .b) => .bit_0_B
  | 0, (.reg .c) => .bit_0_C
  | 0, (.reg .d) => .bit_0_D
  | 0, (.reg .e) => .bit_0_E
  | 0, (.reg .h) => .bit_0_H
  | 0, (.reg .l) => .bit_0_L
  | 0, (.reg .a) => .bit_0_A
  | 0, .atHL => .bit_0_atHL
  | 1, (.reg .b) => .bit_1_B
  | 1, (.reg .c) => .bit_1_C
  | 1, (.reg .d) => .bit_1_D
  | 1, (.reg .e) => .bit_1_E
  | 1, (.reg .h) => .bit_1_H
  | 1, (.reg .l) => .bit_1_L
  | 1, (.reg .a) => .bit_1_A
  | 1, .atHL => .bit_1_atHL
  | 2, (.reg .b) => .bit_2_B
  | 2, (.reg .c) => .bit_2_C
  | 2, (.reg .d) => .bit_2_D
  | 2, (.reg .e) => .bit_2_E
  | 2, (.reg .h) => .bit_2_H
  | 2, (.reg .l) => .bit_2_L
  | 2, (.reg .a) => .bit_2_A
  | 2, .atHL => .bit_2_atHL
  | 3, (.reg .b) => .bit_3_B
  | 3, (.reg .c) => .bit_3_C
  | 3, (.reg .d) => .bit_3_D
  | 3, (.reg .e) => .bit_3_E
  | 3, (.reg .h) => .bit_3_H
  | 3, (.reg .l) => .bit_3_L
  | 3, (.reg .a) => .bit_3_A
  | 3, .atHL => .bit_3_atHL
  | 4, (.reg .b) => .bit_4_B
  | 4, (.reg .c) => .bit_4_C
  | 4, (.reg .d) => .bit_4_D
  | 4, (.reg .e) => .bit_4_E
  | 4, (.reg .h) => .bit_4_H
  | 4, (.reg .l) => .bit_4_L
  | 4, (.reg .a) => .bit_4_A
  | 4, .atHL => .bit_4_atHL
  | 5, (.reg .b) => .bit_5_B
  | 5, (.reg .c) => .bit_5_C
  | 5, (.reg .d) => .bit_5_D
  | 5, (.reg .e) => .bit_5_E
  | 5, (.reg .h) => .bit_5_H
  | 5, (.reg .l) => .bit_5_L
  | 5, (.reg .a) => .bit_5_A
  | 5, .atHL => .bit_5_atHL
  | 6, (.reg .b) => .bit_6_B
  | 6, (.reg .c) => .bit_6_C
  | 6, (.reg .d) => .bit_6_D
  | 6, (.reg .e) => .bit_6_E
  | 6, (.reg .h) => .bit_6_H
  | 6, (.reg .l) => .bit_6_L
  | 6, (.reg .a) => .bit_6_A
  | 6, .atHL => .bit_6_atHL
  | 7, (.reg .b) => .bit_7_B
  | 7, (.reg .c) => .bit_7_C
  | 7, (.reg .d) => .bit_7_D
  | 7, (.reg .e) => .bit_7_E
  | 7, (.reg .h) => .bit_7_H
  | 7, (.reg .l) => .bit_7_L
  | 7, (.reg .a) => .bit_7_A
  | 7, .atHL => .bit_7_atHL

/-- RES b (44_rotate_shift R344). -/
def Instr.bitReset (b : Fin 8) (o : Operand8) : Instr :=
  match b, o with
  | 0, (.reg .b) => .res_0_B
  | 0, (.reg .c) => .res_0_C
  | 0, (.reg .d) => .res_0_D
  | 0, (.reg .e) => .res_0_E
  | 0, (.reg .h) => .res_0_H
  | 0, (.reg .l) => .res_0_L
  | 0, (.reg .a) => .res_0_A
  | 0, .atHL => .res_0_atHL
  | 1, (.reg .b) => .res_1_B
  | 1, (.reg .c) => .res_1_C
  | 1, (.reg .d) => .res_1_D
  | 1, (.reg .e) => .res_1_E
  | 1, (.reg .h) => .res_1_H
  | 1, (.reg .l) => .res_1_L
  | 1, (.reg .a) => .res_1_A
  | 1, .atHL => .res_1_atHL
  | 2, (.reg .b) => .res_2_B
  | 2, (.reg .c) => .res_2_C
  | 2, (.reg .d) => .res_2_D
  | 2, (.reg .e) => .res_2_E
  | 2, (.reg .h) => .res_2_H
  | 2, (.reg .l) => .res_2_L
  | 2, (.reg .a) => .res_2_A
  | 2, .atHL => .res_2_atHL
  | 3, (.reg .b) => .res_3_B
  | 3, (.reg .c) => .res_3_C
  | 3, (.reg .d) => .res_3_D
  | 3, (.reg .e) => .res_3_E
  | 3, (.reg .h) => .res_3_H
  | 3, (.reg .l) => .res_3_L
  | 3, (.reg .a) => .res_3_A
  | 3, .atHL => .res_3_atHL
  | 4, (.reg .b) => .res_4_B
  | 4, (.reg .c) => .res_4_C
  | 4, (.reg .d) => .res_4_D
  | 4, (.reg .e) => .res_4_E
  | 4, (.reg .h) => .res_4_H
  | 4, (.reg .l) => .res_4_L
  | 4, (.reg .a) => .res_4_A
  | 4, .atHL => .res_4_atHL
  | 5, (.reg .b) => .res_5_B
  | 5, (.reg .c) => .res_5_C
  | 5, (.reg .d) => .res_5_D
  | 5, (.reg .e) => .res_5_E
  | 5, (.reg .h) => .res_5_H
  | 5, (.reg .l) => .res_5_L
  | 5, (.reg .a) => .res_5_A
  | 5, .atHL => .res_5_atHL
  | 6, (.reg .b) => .res_6_B
  | 6, (.reg .c) => .res_6_C
  | 6, (.reg .d) => .res_6_D
  | 6, (.reg .e) => .res_6_E
  | 6, (.reg .h) => .res_6_H
  | 6, (.reg .l) => .res_6_L
  | 6, (.reg .a) => .res_6_A
  | 6, .atHL => .res_6_atHL
  | 7, (.reg .b) => .res_7_B
  | 7, (.reg .c) => .res_7_C
  | 7, (.reg .d) => .res_7_D
  | 7, (.reg .e) => .res_7_E
  | 7, (.reg .h) => .res_7_H
  | 7, (.reg .l) => .res_7_L
  | 7, (.reg .a) => .res_7_A
  | 7, .atHL => .res_7_atHL

/-- SET b (44_rotate_shift R345). -/
def Instr.bitSet (b : Fin 8) (o : Operand8) : Instr :=
  match b, o with
  | 0, (.reg .b) => .set_0_B
  | 0, (.reg .c) => .set_0_C
  | 0, (.reg .d) => .set_0_D
  | 0, (.reg .e) => .set_0_E
  | 0, (.reg .h) => .set_0_H
  | 0, (.reg .l) => .set_0_L
  | 0, (.reg .a) => .set_0_A
  | 0, .atHL => .set_0_atHL
  | 1, (.reg .b) => .set_1_B
  | 1, (.reg .c) => .set_1_C
  | 1, (.reg .d) => .set_1_D
  | 1, (.reg .e) => .set_1_E
  | 1, (.reg .h) => .set_1_H
  | 1, (.reg .l) => .set_1_L
  | 1, (.reg .a) => .set_1_A
  | 1, .atHL => .set_1_atHL
  | 2, (.reg .b) => .set_2_B
  | 2, (.reg .c) => .set_2_C
  | 2, (.reg .d) => .set_2_D
  | 2, (.reg .e) => .set_2_E
  | 2, (.reg .h) => .set_2_H
  | 2, (.reg .l) => .set_2_L
  | 2, (.reg .a) => .set_2_A
  | 2, .atHL => .set_2_atHL
  | 3, (.reg .b) => .set_3_B
  | 3, (.reg .c) => .set_3_C
  | 3, (.reg .d) => .set_3_D
  | 3, (.reg .e) => .set_3_E
  | 3, (.reg .h) => .set_3_H
  | 3, (.reg .l) => .set_3_L
  | 3, (.reg .a) => .set_3_A
  | 3, .atHL => .set_3_atHL
  | 4, (.reg .b) => .set_4_B
  | 4, (.reg .c) => .set_4_C
  | 4, (.reg .d) => .set_4_D
  | 4, (.reg .e) => .set_4_E
  | 4, (.reg .h) => .set_4_H
  | 4, (.reg .l) => .set_4_L
  | 4, (.reg .a) => .set_4_A
  | 4, .atHL => .set_4_atHL
  | 5, (.reg .b) => .set_5_B
  | 5, (.reg .c) => .set_5_C
  | 5, (.reg .d) => .set_5_D
  | 5, (.reg .e) => .set_5_E
  | 5, (.reg .h) => .set_5_H
  | 5, (.reg .l) => .set_5_L
  | 5, (.reg .a) => .set_5_A
  | 5, .atHL => .set_5_atHL
  | 6, (.reg .b) => .set_6_B
  | 6, (.reg .c) => .set_6_C
  | 6, (.reg .d) => .set_6_D
  | 6, (.reg .e) => .set_6_E
  | 6, (.reg .h) => .set_6_H
  | 6, (.reg .l) => .set_6_L
  | 6, (.reg .a) => .set_6_A
  | 6, .atHL => .set_6_atHL
  | 7, (.reg .b) => .set_7_B
  | 7, (.reg .c) => .set_7_C
  | 7, (.reg .d) => .set_7_D
  | 7, (.reg .e) => .set_7_E
  | 7, (.reg .h) => .set_7_H
  | 7, (.reg .l) => .set_7_L
  | 7, (.reg .a) => .set_7_A
  | 7, .atHL => .set_7_atHL

/-- The byte of an instruction that has no handler (30_encoding R175). -/
def Instr.illegalByte : Instr → Option Byte
  | .illegal_D3 => some 0xD3
  | .illegal_DB => some 0xDB
  | .illegal_DD => some 0xDD
  | .illegal_E3 => some 0xE3
  | .illegal_E4 => some 0xE4
  | .illegal_EB => some 0xEB
  | .illegal_EC => some 0xEC
  | .illegal_ED => some 0xED
  | .illegal_F4 => some 0xF4
  | .illegal_FC => some 0xFC
  | .illegal_FD => some 0xFD
  | _ => none

end Sys2Proof
end

