-- ==== Sys2Proof/Machine/Ops.lean ====
section
/-! DEFINITION. The named operations over registers, memory words, the stack and the interrupt requests; taking an interrupt and
returning from one. -/

namespace Sys2Proof.Machine

/-- What a meaning answers with. -/
abbrev Result := Host.Outcome State Fault Refusal

/-- `x[r]` for an 8-bit register (00_scope R9). -/
def State.reg (s : State) : Reg8 → Byte
  | .b => s.regs.b
  | .c => s.regs.c
  | .d => s.regs.d
  | .e => s.regs.e
  | .h => s.regs.h
  | .l => s.regs.l
  | .a => s.regs.a

/-- `x[r] <- v` on a register file. -/
def Regs.set (g : Regs) (r : Reg8) (v : Byte) : Regs :=
  match r with
  | .b => { g with b := v }
  | .c => { g with c := v }
  | .d => { g with d := v }
  | .e => { g with e := v }
  | .h => { g with h := v }
  | .l => { g with l := v }
  | .a => { g with a := v }

/-- `x[r] <- v` for an 8-bit register (00_scope R9). -/
def State.setReg (s : State) (r : Reg8) (v : Byte) : State := { s with regs := s.regs.set r v }

/-- `x[rr]` for a pair of the `rp` table (10_state R31, 30_encoding R153). -/
def State.pair (s : State) : Reg16 → Word
  | .bc => mkWord s.regs.b s.regs.c
  | .de => mkWord s.regs.d s.regs.e
  | .hl => mkWord s.regs.h s.regs.l
  | .sp => s.regs.sp

/-- `x[rr] <- v` on a register file: a pair writes both of its halves (10_state R31). -/
def Regs.setPair (g : Regs) (p : Reg16) (v : Word) : Regs :=
  match p with
  | .bc => { g with b := hiByte v, c := loByte v }
  | .de => { g with d := hiByte v, e := loByte v }
  | .hl => { g with h := hiByte v, l := loByte v }
  | .sp => { g with sp := v }

/-- `x[rr] <- v` for a pair of the `rp` table (10_state R31). -/
def State.setPair (s : State) (p : Reg16) (v : Word) : State := { s with regs := s.regs.setPair p v }

/-- HL, the address of the (HL) operand. -/
def State.hl (s : State) : Word := s.pair .hl

/-- `pc <- target` (00_scope R9). -/
def State.setPc (s : State) (v : Word) : State := { s with regs := { s.regs with pc := v } }

/-- `x[SP] <- v`. -/
def State.setSp (s : State) (v : Word) : State := s.setPair .sp v

/-- The four flags of F as a byte whose bits 3-0 are 0 (10_state R33). -/
def packFlags (z n h c : Bool) : Byte :=
  BitVec.ofBool z ++ BitVec.ofBool n ++ BitVec.ofBool h ++ BitVec.ofBool c ++ (0 : BitVec 4)

/-- `F.Z` (10_state R33). -/
def State.flagZ (s : State) : Bool := bitOf s.regs.f 7

/-- `F.N` (10_state R33). -/
def State.flagN (s : State) : Bool := bitOf s.regs.f 6

/-- `F.H` (10_state R33). -/
def State.flagH (s : State) : Bool := bitOf s.regs.f 5

/-- `F.C` (10_state R33). -/
def State.flagC (s : State) : Bool := bitOf s.regs.f 4

/-- Write the four flags; a flag an instruction keeps is written with its own value (10_state R33). -/
def State.setFlags (s : State) (z n h c : Bool) : State :=
  { s with regs := { s.regs with f := packFlags z n h c } }

/-- `x[rr]` for a pair of the `rp2` table; AF reads with F's low nibble 0 (10_state R31, 30_encoding R153). -/
def State.stackPair (s : State) : StackReg → Word
  | .bc => s.pair .bc
  | .de => s.pair .de
  | .hl => s.pair .hl
  | .af => mkWord s.regs.a (s.regs.f &&& 0xF0)

/-- `x[rr] <- v` for a pair of the `rp2` table; a write to AF stores only bits 7-4 of F (10_state R31). -/
def State.setStackPair (s : State) (q : StackReg) (v : Word) : State :=
  match q with
  | .bc => s.setPair .bc v
  | .de => s.setPair .de v
  | .hl => s.setPair .hl v
  | .af => { s with regs := { s.regs with a := hiByte v, f := loByte v &&& 0xF0 } }

/-- The condition of a conditional jump, call or return (30_encoding R154). -/
def State.cond (s : State) : Cond → Bool
  | .nz => !s.flagZ
  | .z => s.flagZ
  | .nc => !s.flagC
  | .c => s.flagC

/-- `cycles += n` (00_scope R11). -/
def State.addCycles (s : State) (n : Nat) : State := { s with cycles := s.cycles + n }

/-- Pass over an instruction of length `len` and base cost `cost`: `pc <- pc + L`, and the cost is charged (30_encoding R162, R164).
Every meaning begins with it, so its pseudocode sees pc as the address of the next instruction. -/
def State.pass (s : State) (len : Nat) (cost : Nat) : State :=
  (s.setPc (s.regs.pc + BitVec.ofNat 16 len)).addCycles cost

/-- `MemWrite(addr, 2, v)`: the low byte at addr, then the high byte at addr + 1 (00_scope R10). -/
def State.busWrite16 (s : State) (a : Word) (v : Word) : State :=
  (s.busWrite a (loByte v)).busWrite (a + 1) (hiByte v)

/-- `Push16(v)`: the high byte first, at SP - 1, then the low byte at SP - 2 (40_load R200). -/
def State.push16 (s : State) (v : Word) : State :=
  let s1 := (s.setSp (s.regs.sp - 1)).busWrite (s.regs.sp - 1) (hiByte v)
  (s1.setSp (s1.regs.sp - 1)).busWrite (s1.regs.sp - 1) (loByte v)

/-- The word `Pop16()` returns: the low byte at SP, the high byte at SP + 1 (40_load R200). -/
def State.popValue (s : State) : Word := mkWord (s.busRead (s.regs.sp + 1)) (s.busRead s.regs.sp)

/-- The state `Pop16()` leaves: SP raised by 2 (40_load R200). -/
def State.popDone (s : State) : State := s.setSp (s.regs.sp + 2)

/-- The five interrupt sources, in priority order (10_state R41). -/
inductive IrqSource where
  | vblank | lcdStatus | timer | serial | joypad
deriving DecidableEq, Repr

/-- The source's bit in IF and IE (10_state R41, 60_exceptions R420). -/
def IrqSource.bit : IrqSource → Nat
  | .vblank => 0
  | .lcdStatus => 1
  | .timer => 2
  | .serial => 3
  | .joypad => 4

/-- The source's service address, `0x0040 + 8*k` (60_exceptions R402). -/
def IrqSource.vector (k : IrqSource) : Word := BitVec.ofNat 16 (0x0040 + 8 * k.bit)

/-- The source's bit as a 5-bit mask. -/
def IrqSource.mask (k : IrqSource) : BitVec 5 := BitVec.ofNat 5 (2 ^ k.bit)

/-- `request(src)`: the source's bit is ORed into IF (60_exceptions R420). -/
def State.request (s : State) (k : IrqSource) : State := { s with iflag := s.iflag ||| k.mask }

/-- `IE & IF & 0x1F`: the pending enabled requests (60_exceptions R401). -/
def State.pending (s : State) : BitVec 5 := s.ie.setWidth 5 &&& s.iflag

/-- The lowest set bit of the pending requests: the highest priority (60_exceptions R422). -/
def lowestSource (p : BitVec 5) : Option IrqSource :=
  if p.getLsbD 0 then some .vblank
  else if p.getLsbD 1 then some .lcdStatus
  else if p.getLsbD 2 then some .timer
  else if p.getLsbD 3 then some .serial
  else if p.getLsbD 4 then some .joypad
  else none

/-- Taking an interrupt: the source's request is cleared, IME and ei_pending are cleared, pc is pushed, pc goes to the source's
vector, and 20 T-cycles are charged (60_exceptions R402). The engine's service check calls it (Machine/Engine.lean). -/
def State.takeInterrupt (s : State) (k : IrqSource) : State :=
  let s1 : State := { s with iflag := s.iflag &&& ~~~k.mask, ime := false, eiPending := false }
  ((s1.push16 s1.regs.pc).setPc k.vector).addCycles 20

/-- `pc <- Pop16()`: the return that RET, RET cc and RETI share (41_control R257). -/
def State.popPc (s : State) : State := s.popDone.setPc s.popValue

/-- Returning from an interrupt: pc is popped, IME becomes 1 at once and ei_pending 0 (41_control R259, 60_exceptions R409). -/
def State.returnFromInterrupt (s : State) : State := { s.popPc with ime := true, eiPending := false }

end Sys2Proof.Machine
end

