-- ==== Sys2Proof/Machine/Operands.lean ====
section
/-! DEFINITION. The operand forms: src8 and dst8, the addresses of the load forms, and the displacement sums
(30_encoding R152, R156). -/

namespace Sys2Proof.Machine

/-- `src8(s)`: the register, or the memory byte at HL (30_encoding R152). -/
def State.src8 (s : State) : Operand8 → Byte
  | .reg r => s.reg r
  | .atHL => s.busRead s.hl

/-- `dst8(s) <- v`: the register, or the memory byte at HL (30_encoding R152). -/
def State.dst8 (s : State) (o : Operand8) (v : Byte) : State :=
  match o with
  | .reg r => s.setReg r v
  | .atHL => s.busWrite s.hl v

/-- The address of a high-page form: `0xFF00 + n` (30_encoding R156). -/
def highPage (n : Byte) : Word := mkWord 0xFF n

/-- The address HL and the HL that follows it: after the access HL is `HL + 1` (40_load R216, R217). -/
def State.incHL (s : State) : State := s.setPair .hl (s.hl + 1)

/-- After the access HL is `HL - 1` (40_load R218, R219). -/
def State.decHL (s : State) : State := s.setPair .hl (s.hl - 1)

/-- `SP + e` (40_load R223, 43_alu R311). -/
def State.spPlus (s : State) (e : Int) : Word := s.regs.sp + dispWord e

/-- `pc + e`, with pc already past the instruction (41_control R253). -/
def State.pcPlus (s : State) (e : Int) : Word := s.regs.pc + dispWord e

end Sys2Proof.Machine
end

