-- ==== Sys2Proof/Machine/Flags.lean ====
section
/-! DEFINITION. The flag computations: the 8-bit adder and subtractor, the logic operations, the 16-bit adder, SP plus displacement,
the rotates and shifts, and decimal adjustment. -/

namespace Sys2Proof.Machine

/-- A result byte and the four flags that go with it. -/
structure AluOut where
  res : Byte
  z : Bool
  n : Bool
  h : Bool
  c : Bool
deriving DecidableEq, Repr

/-- `Add8(a, b, cin)` (43_alu R300). -/
def add8 (a b : Byte) (cin : Bool) : AluOut :=
  let s := a.toNat + b.toNat + cin.toNat
  let res := BitVec.ofNat 8 s
  { res := res, z := decide (res = 0), n := false, h := decide (0xF < a.toNat % 16 + b.toNat % 16 + cin.toNat),
    c := decide (0xFF < s) }

/-- `Sub8(a, b, cin)`: a - b - cin (43_alu R300). -/
def sub8 (a b : Byte) (cin : Bool) : AluOut :=
  let d : Int := (a.toNat : Int) - (b.toNat : Int) - (cin.toNat : Int)
  let res := BitVec.ofInt 8 d
  { res := res, z := decide (res = 0), n := true,
    h := decide (((a.toNat % 16 : Nat) : Int) - ((b.toNat % 16 : Nat) : Int) - (cin.toNat : Int) < 0),
    c := decide (a.toNat < b.toNat + cin.toNat) }

/-- A logic result with H forced to `h`, N and C cleared (43_alu R305 to R307). -/
def logic8 (res : Byte) (h : Bool) : AluOut :=
  { res := res, z := decide (res = 0), n := false, h := h, c := false }

/-- The result and flags of ALU[op] on A = `a`, operand `v` and incoming carry `c` (43_alu R301 to R308). For CP the result is
discarded by the instruction. -/
def aluOut (op : AluOp) (a v : Byte) (c : Bool) : AluOut :=
  match op with
  | .add => add8 a v false
  | .adc => add8 a v c
  | .sub => sub8 a v false
  | .sbc => sub8 a v c
  | .and => logic8 (a &&& v) true
  | .xor => logic8 (a ^^^ v) false
  | .or => logic8 (a ||| v) false
  | .cp => sub8 a v false

/-- Write the flags of a result. -/
def State.setAluFlags (s : State) (o : AluOut) : State := s.setFlags o.z o.n o.h o.c

/-- INC on a byte: Z, N = 0 and H; the carry is kept (42_incdec R280). -/
def inc8 (v : Byte) (c : Bool) : AluOut :=
  { res := v + 1, z := decide (v + 1 = 0), n := false, h := decide (v.toNat % 16 = 0xF), c := c }

/-- DEC on a byte: Z, N = 1 and H; the carry is kept (42_incdec R281). -/
def dec8 (v : Byte) (c : Bool) : AluOut :=
  { res := v - 1, z := decide (v - 1 = 0), n := true, h := decide (v.toNat % 16 = 0), c := c }

/-- The half-carry of a 16-bit addition: out of bit 11 (43_alu R310). -/
def halfCarry16 (a b : Word) : Bool := decide (0xFFF < a.toNat % 0x1000 + b.toNat % 0x1000)

/-- The carry of a 16-bit addition: out of bit 15 (43_alu R310). -/
def carry16 (a b : Word) : Bool := decide (0xFFFF < a.toNat + b.toNat)

/-- The half-carry of SP plus the displacement byte `n`, out of bit 3 of the low byte (40_load R223, 43_alu R311). -/
def spHalfCarry (sp : Word) (n : Byte) : Bool := decide (0xF < sp.toNat % 16 + n.toNat % 16)

/-- The carry of SP plus the displacement byte `n`, out of bit 7 of the low byte (40_load R223, 43_alu R311). -/
def spCarry (sp : Word) (n : Byte) : Bool := decide (0xFF < sp.toNat % 256 + n.toNat)

/-- Bit 0 from a flag: `v | c` with c in bit 0. -/
def withBit0 (v : Byte) (c : Bool) : Byte := v ||| (BitVec.ofBool c).setWidth 8

/-- Bit 7 from a flag: `v | (c << 7)`. -/
def withBit7 (v : Byte) (c : Bool) : Byte := v ||| ((BitVec.ofBool c).setWidth 8 <<< 7)

/-- The result of a rotate or shift of `v` with incoming carry `c` (44_rotate_shift R330 to R333, R335 to R342). -/
def rotRes (op : RotOp) (v : Byte) (c : Bool) : Byte :=
  match op with
  | .rlc => withBit0 (v <<< 1) (bitOf v 7)
  | .rrc => withBit7 (v >>> 1) (bitOf v 0)
  | .rl => withBit0 (v <<< 1) c
  | .rr => withBit7 (v >>> 1) c
  | .sla => v <<< 1
  | .sra => (v >>> 1) ||| (v &&& 0x80)
  | .swap => (v <<< 4) ||| (v >>> 4)
  | .srl => v >>> 1

/-- The bit a rotate or shift moves into C: bit 7 to the left, bit 0 to the right, and 0 for SWAP (44_rotate_shift R330 to R342). -/
def rotCarry (op : RotOp) (v : Byte) : Bool :=
  match op with
  | .rlc | .rl | .sla => bitOf v 7
  | .rrc | .rr | .sra | .srl => bitOf v 0
  | .swap => false

/-- The result and flags of a CB rotate or shift: Z from the result, N and H cleared (44_rotate_shift R335 to R342). -/
def rotOut (op : RotOp) (v : Byte) (c : Bool) : AluOut :=
  { res := rotRes op v c, z := decide (rotRes op v c = 0), n := false, h := false, c := rotCarry op v }

/-- The mask of bit b. -/
def bitMask (b : Fin 8) : Byte := 1#8 <<< b.val

/-- Whether DAA after an addition adds 0x60 and sets C (45_misc R365). -/
def daaHigh (a : Byte) (c : Bool) : Bool := c || decide (0x99 < a.toNat)

/-- Whether DAA after an addition adds 0x06 (45_misc R365). -/
def daaLow (a : Byte) (h : Bool) : Bool := h || decide (0x09 < a.toNat % 16)

/-- DAA's result and flags for A = `a` and the flags N, H, C (45_misc R365). N is kept; H is cleared. -/
def daaOut (a : Byte) (n h c : Bool) : AluOut :=
  if n then
    let res := a - (if c then 0x60 else 0) - (if h then 0x06 else 0)
    { res := res, z := decide (res = 0), n := true, h := false, c := c }
  else
    let res := a + (if daaHigh a c then 0x60 else 0) + (if daaLow a h then 0x06 else 0)
    { res := res, z := decide (res = 0), n := false, h := false, c := daaHigh a c }

end Sys2Proof.Machine
end

