-- ==== Sys2Proof/Machine/Alu.lean ====
section
/-! DEFINITION. The 8-bit operations on A, and the 16-bit additions (43_alu). First what each rule does, in the state already past the instruction; then one meaning for each row
of the opcode table. -/

namespace Sys2Proof.Machine

/-- ALU[op] on A and a byte, with the incoming carry; CP writes the flags only (43_alu R301 to R308). -/
def aluWith (op : AluOp) (v : Byte) (s : State) : State :=
  match op with
  | .cp => s.setAluFlags (aluOut .cp (s.reg .a) v s.flagC)
  | op => (s.setReg .a (aluOut op (s.reg .a) v s.flagC).res).setAluFlags (aluOut op (s.reg .a) v s.flagC)

/-- ALU[op] on A and src8 (43_alu R301 to R308). -/
def alu (op : AluOp) (o : Operand8) (s : State) : State := aluWith op (s.src8 o) s

/-- `x[HL] <- x[HL] + x[rr]`; Z is kept (43_alu R310). -/
def addHL (p : Reg16) (s : State) : State :=
  (s.setPair .hl (s.hl + s.pair p)).setFlags s.flagZ false (halfCarry16 s.hl (s.pair p)) (carry16 s.hl (s.pair p))

/-- `x[SP] <- x[SP] + e`, flags from the low byte of SP plus the unsigned byte (43_alu R311). -/
def addSP (e : Int) (s : State) : State :=
  (s.setSp (s.spPlus e)).setFlags false false (spHalfCarry s.regs.sp (dispByte e)) (spCarry s.regs.sp (dispByte e))

/-- ADD HL,BC: `09`, 8 T-cycles (43_alu R310). -/
def execAdd_HL_BC (s : State) : Result := .next (addHL .bc (s.pass 1 8))

/-- ADD HL,DE: `19`, 8 T-cycles (43_alu R310). -/
def execAdd_HL_DE (s : State) : Result := .next (addHL .de (s.pass 1 8))

/-- ADD HL,HL: `29`, 8 T-cycles (43_alu R310). -/
def execAdd_HL_HL (s : State) : Result := .next (addHL .hl (s.pass 1 8))

/-- ADD HL,SP: `39`, 8 T-cycles (43_alu R310). -/
def execAdd_HL_SP (s : State) : Result := .next (addHL .sp (s.pass 1 8))

/-- ADD A,B: `80`, 4 T-cycles (43_alu R301). -/
def execAdd_A_B (s : State) : Result := .next (alu .add (.reg .b) (s.pass 1 4))

/-- ADD A,C: `81`, 4 T-cycles (43_alu R301). -/
def execAdd_A_C (s : State) : Result := .next (alu .add (.reg .c) (s.pass 1 4))

/-- ADD A,D: `82`, 4 T-cycles (43_alu R301). -/
def execAdd_A_D (s : State) : Result := .next (alu .add (.reg .d) (s.pass 1 4))

/-- ADD A,E: `83`, 4 T-cycles (43_alu R301). -/
def execAdd_A_E (s : State) : Result := .next (alu .add (.reg .e) (s.pass 1 4))

/-- ADD A,H: `84`, 4 T-cycles (43_alu R301). -/
def execAdd_A_H (s : State) : Result := .next (alu .add (.reg .h) (s.pass 1 4))

/-- ADD A,L: `85`, 4 T-cycles (43_alu R301). -/
def execAdd_A_L (s : State) : Result := .next (alu .add (.reg .l) (s.pass 1 4))

/-- ADD A,(HL): `86`, 8 T-cycles (43_alu R301). -/
def execAdd_A_atHL (s : State) : Result := .next (alu .add .atHL (s.pass 1 8))

/-- ADD A,A: `87`, 4 T-cycles (43_alu R301). -/
def execAdd_A_A (s : State) : Result := .next (alu .add (.reg .a) (s.pass 1 4))

/-- ADC A,B: `88`, 4 T-cycles (43_alu R302). -/
def execAdc_A_B (s : State) : Result := .next (alu .adc (.reg .b) (s.pass 1 4))

/-- ADC A,C: `89`, 4 T-cycles (43_alu R302). -/
def execAdc_A_C (s : State) : Result := .next (alu .adc (.reg .c) (s.pass 1 4))

/-- ADC A,D: `8A`, 4 T-cycles (43_alu R302). -/
def execAdc_A_D (s : State) : Result := .next (alu .adc (.reg .d) (s.pass 1 4))

/-- ADC A,E: `8B`, 4 T-cycles (43_alu R302). -/
def execAdc_A_E (s : State) : Result := .next (alu .adc (.reg .e) (s.pass 1 4))

/-- ADC A,H: `8C`, 4 T-cycles (43_alu R302). -/
def execAdc_A_H (s : State) : Result := .next (alu .adc (.reg .h) (s.pass 1 4))

/-- ADC A,L: `8D`, 4 T-cycles (43_alu R302). -/
def execAdc_A_L (s : State) : Result := .next (alu .adc (.reg .l) (s.pass 1 4))

/-- ADC A,(HL): `8E`, 8 T-cycles (43_alu R302). -/
def execAdc_A_atHL (s : State) : Result := .next (alu .adc .atHL (s.pass 1 8))

/-- ADC A,A: `8F`, 4 T-cycles (43_alu R302). -/
def execAdc_A_A (s : State) : Result := .next (alu .adc (.reg .a) (s.pass 1 4))

/-- SUB A,B: `90`, 4 T-cycles (43_alu R303). -/
def execSub_A_B (s : State) : Result := .next (alu .sub (.reg .b) (s.pass 1 4))

/-- SUB A,C: `91`, 4 T-cycles (43_alu R303). -/
def execSub_A_C (s : State) : Result := .next (alu .sub (.reg .c) (s.pass 1 4))

/-- SUB A,D: `92`, 4 T-cycles (43_alu R303). -/
def execSub_A_D (s : State) : Result := .next (alu .sub (.reg .d) (s.pass 1 4))

/-- SUB A,E: `93`, 4 T-cycles (43_alu R303). -/
def execSub_A_E (s : State) : Result := .next (alu .sub (.reg .e) (s.pass 1 4))

/-- SUB A,H: `94`, 4 T-cycles (43_alu R303). -/
def execSub_A_H (s : State) : Result := .next (alu .sub (.reg .h) (s.pass 1 4))

/-- SUB A,L: `95`, 4 T-cycles (43_alu R303). -/
def execSub_A_L (s : State) : Result := .next (alu .sub (.reg .l) (s.pass 1 4))

/-- SUB A,(HL): `96`, 8 T-cycles (43_alu R303). -/
def execSub_A_atHL (s : State) : Result := .next (alu .sub .atHL (s.pass 1 8))

/-- SUB A,A: `97`, 4 T-cycles (43_alu R303). -/
def execSub_A_A (s : State) : Result := .next (alu .sub (.reg .a) (s.pass 1 4))

/-- SBC A,B: `98`, 4 T-cycles (43_alu R304). -/
def execSbc_A_B (s : State) : Result := .next (alu .sbc (.reg .b) (s.pass 1 4))

/-- SBC A,C: `99`, 4 T-cycles (43_alu R304). -/
def execSbc_A_C (s : State) : Result := .next (alu .sbc (.reg .c) (s.pass 1 4))

/-- SBC A,D: `9A`, 4 T-cycles (43_alu R304). -/
def execSbc_A_D (s : State) : Result := .next (alu .sbc (.reg .d) (s.pass 1 4))

/-- SBC A,E: `9B`, 4 T-cycles (43_alu R304). -/
def execSbc_A_E (s : State) : Result := .next (alu .sbc (.reg .e) (s.pass 1 4))

/-- SBC A,H: `9C`, 4 T-cycles (43_alu R304). -/
def execSbc_A_H (s : State) : Result := .next (alu .sbc (.reg .h) (s.pass 1 4))

/-- SBC A,L: `9D`, 4 T-cycles (43_alu R304). -/
def execSbc_A_L (s : State) : Result := .next (alu .sbc (.reg .l) (s.pass 1 4))

/-- SBC A,(HL): `9E`, 8 T-cycles (43_alu R304). -/
def execSbc_A_atHL (s : State) : Result := .next (alu .sbc .atHL (s.pass 1 8))

/-- SBC A,A: `9F`, 4 T-cycles (43_alu R304). -/
def execSbc_A_A (s : State) : Result := .next (alu .sbc (.reg .a) (s.pass 1 4))

/-- AND A,B: `A0`, 4 T-cycles (43_alu R305). -/
def execAnd_A_B (s : State) : Result := .next (alu .and (.reg .b) (s.pass 1 4))

/-- AND A,C: `A1`, 4 T-cycles (43_alu R305). -/
def execAnd_A_C (s : State) : Result := .next (alu .and (.reg .c) (s.pass 1 4))

/-- AND A,D: `A2`, 4 T-cycles (43_alu R305). -/
def execAnd_A_D (s : State) : Result := .next (alu .and (.reg .d) (s.pass 1 4))

/-- AND A,E: `A3`, 4 T-cycles (43_alu R305). -/
def execAnd_A_E (s : State) : Result := .next (alu .and (.reg .e) (s.pass 1 4))

/-- AND A,H: `A4`, 4 T-cycles (43_alu R305). -/
def execAnd_A_H (s : State) : Result := .next (alu .and (.reg .h) (s.pass 1 4))

/-- AND A,L: `A5`, 4 T-cycles (43_alu R305). -/
def execAnd_A_L (s : State) : Result := .next (alu .and (.reg .l) (s.pass 1 4))

/-- AND A,(HL): `A6`, 8 T-cycles (43_alu R305). -/
def execAnd_A_atHL (s : State) : Result := .next (alu .and .atHL (s.pass 1 8))

/-- AND A,A: `A7`, 4 T-cycles (43_alu R305). -/
def execAnd_A_A (s : State) : Result := .next (alu .and (.reg .a) (s.pass 1 4))

/-- XOR A,B: `A8`, 4 T-cycles (43_alu R306). -/
def execXor_A_B (s : State) : Result := .next (alu .xor (.reg .b) (s.pass 1 4))

/-- XOR A,C: `A9`, 4 T-cycles (43_alu R306). -/
def execXor_A_C (s : State) : Result := .next (alu .xor (.reg .c) (s.pass 1 4))

/-- XOR A,D: `AA`, 4 T-cycles (43_alu R306). -/
def execXor_A_D (s : State) : Result := .next (alu .xor (.reg .d) (s.pass 1 4))

/-- XOR A,E: `AB`, 4 T-cycles (43_alu R306). -/
def execXor_A_E (s : State) : Result := .next (alu .xor (.reg .e) (s.pass 1 4))

/-- XOR A,H: `AC`, 4 T-cycles (43_alu R306). -/
def execXor_A_H (s : State) : Result := .next (alu .xor (.reg .h) (s.pass 1 4))

/-- XOR A,L: `AD`, 4 T-cycles (43_alu R306). -/
def execXor_A_L (s : State) : Result := .next (alu .xor (.reg .l) (s.pass 1 4))

/-- XOR A,(HL): `AE`, 8 T-cycles (43_alu R306). -/
def execXor_A_atHL (s : State) : Result := .next (alu .xor .atHL (s.pass 1 8))

/-- XOR A,A: `AF`, 4 T-cycles (43_alu R306). -/
def execXor_A_A (s : State) : Result := .next (alu .xor (.reg .a) (s.pass 1 4))

/-- OR A,B: `B0`, 4 T-cycles (43_alu R307). -/
def execOr_A_B (s : State) : Result := .next (alu .or (.reg .b) (s.pass 1 4))

/-- OR A,C: `B1`, 4 T-cycles (43_alu R307). -/
def execOr_A_C (s : State) : Result := .next (alu .or (.reg .c) (s.pass 1 4))

/-- OR A,D: `B2`, 4 T-cycles (43_alu R307). -/
def execOr_A_D (s : State) : Result := .next (alu .or (.reg .d) (s.pass 1 4))

/-- OR A,E: `B3`, 4 T-cycles (43_alu R307). -/
def execOr_A_E (s : State) : Result := .next (alu .or (.reg .e) (s.pass 1 4))

/-- OR A,H: `B4`, 4 T-cycles (43_alu R307). -/
def execOr_A_H (s : State) : Result := .next (alu .or (.reg .h) (s.pass 1 4))

/-- OR A,L: `B5`, 4 T-cycles (43_alu R307). -/
def execOr_A_L (s : State) : Result := .next (alu .or (.reg .l) (s.pass 1 4))

/-- OR A,(HL): `B6`, 8 T-cycles (43_alu R307). -/
def execOr_A_atHL (s : State) : Result := .next (alu .or .atHL (s.pass 1 8))

/-- OR A,A: `B7`, 4 T-cycles (43_alu R307). -/
def execOr_A_A (s : State) : Result := .next (alu .or (.reg .a) (s.pass 1 4))

/-- CP A,B: `B8`, 4 T-cycles (43_alu R308). -/
def execCp_A_B (s : State) : Result := .next (alu .cp (.reg .b) (s.pass 1 4))

/-- CP A,C: `B9`, 4 T-cycles (43_alu R308). -/
def execCp_A_C (s : State) : Result := .next (alu .cp (.reg .c) (s.pass 1 4))

/-- CP A,D: `BA`, 4 T-cycles (43_alu R308). -/
def execCp_A_D (s : State) : Result := .next (alu .cp (.reg .d) (s.pass 1 4))

/-- CP A,E: `BB`, 4 T-cycles (43_alu R308). -/
def execCp_A_E (s : State) : Result := .next (alu .cp (.reg .e) (s.pass 1 4))

/-- CP A,H: `BC`, 4 T-cycles (43_alu R308). -/
def execCp_A_H (s : State) : Result := .next (alu .cp (.reg .h) (s.pass 1 4))

/-- CP A,L: `BD`, 4 T-cycles (43_alu R308). -/
def execCp_A_L (s : State) : Result := .next (alu .cp (.reg .l) (s.pass 1 4))

/-- CP A,(HL): `BE`, 8 T-cycles (43_alu R308). -/
def execCp_A_atHL (s : State) : Result := .next (alu .cp .atHL (s.pass 1 8))

/-- CP A,A: `BF`, 4 T-cycles (43_alu R308). -/
def execCp_A_A (s : State) : Result := .next (alu .cp (.reg .a) (s.pass 1 4))

/-- ADD A,n: `C6`, 8 T-cycles (43_alu R301). -/
def execAdd_A_n (n : Byte) (s : State) : Result := .next (aluWith .add n (s.pass 2 8))

/-- ADC A,n: `CE`, 8 T-cycles (43_alu R302). -/
def execAdc_A_n (n : Byte) (s : State) : Result := .next (aluWith .adc n (s.pass 2 8))

/-- SUB A,n: `D6`, 8 T-cycles (43_alu R303). -/
def execSub_A_n (n : Byte) (s : State) : Result := .next (aluWith .sub n (s.pass 2 8))

/-- SBC A,n: `DE`, 8 T-cycles (43_alu R304). -/
def execSbc_A_n (n : Byte) (s : State) : Result := .next (aluWith .sbc n (s.pass 2 8))

/-- AND A,n: `E6`, 8 T-cycles (43_alu R305). -/
def execAnd_A_n (n : Byte) (s : State) : Result := .next (aluWith .and n (s.pass 2 8))

/-- ADD SP,e: `E8`, 16 T-cycles (43_alu R311). -/
def execAdd_SP_e (e : Int) (s : State) : Result := .next (addSP e (s.pass 2 16))

/-- XOR A,n: `EE`, 8 T-cycles (43_alu R306). -/
def execXor_A_n (n : Byte) (s : State) : Result := .next (aluWith .xor n (s.pass 2 8))

/-- OR A,n: `F6`, 8 T-cycles (43_alu R307). -/
def execOr_A_n (n : Byte) (s : State) : Result := .next (aluWith .or n (s.pass 2 8))

/-- CP A,n: `FE`, 8 T-cycles (43_alu R308). -/
def execCp_A_n (n : Byte) (s : State) : Result := .next (aluWith .cp n (s.pass 2 8))

end Sys2Proof.Machine
end

