-- ==== Sys2Proof/Machine/Control.lean ====
section
/-! DEFINITION. The jumps, calls, returns and restarts (41_control). No flag is written. First what each rule does, in the state already past the instruction; then one meaning for each row
of the opcode table. -/

namespace Sys2Proof.Machine

/-- `pc <- nn` (41_control R250). -/
def jump (nn : Word) (s : State) : State := s.setPc nn

/-- `if cond(cc) then { pc <- nn; extra <- 4 }` (41_control R251). -/
def jumpCond (cc : Cond) (nn : Word) (s : State) : State := if s.cond cc then (jump nn s).addCycles 4 else s

/-- `pc <- x[HL]` (41_control R252). -/
def jumpHL (s : State) : State := s.setPc s.hl

/-- `pc <- pc + e` (41_control R253). -/
def jumpRel (e : Int) (s : State) : State := s.setPc (s.pcPlus e)

/-- `if cond(cc) then { pc <- pc + e; extra <- 4 }` (41_control R254). -/
def jumpRelCond (cc : Cond) (e : Int) (s : State) : State := if s.cond cc then (jumpRel e s).addCycles 4 else s

/-- `Push16(pc); pc <- nn`: CALL, and RST with its fixed target (41_control R255, R260). -/
def call (nn : Word) (s : State) : State := (s.push16 s.regs.pc).setPc nn

/-- `if cond(cc) then { Push16(pc); pc <- nn; extra <- 12 }` (41_control R256). -/
def callCond (cc : Cond) (nn : Word) (s : State) : State := if s.cond cc then (call nn s).addCycles 12 else s

/-- `pc <- Pop16()` (41_control R257). -/
def ret (s : State) : State := s.popPc

/-- `if cond(cc) then { pc <- Pop16(); extra <- 12 }` (41_control R258). -/
def retCond (cc : Cond) (s : State) : State := if s.cond cc then (ret s).addCycles 12 else s

/-- `pc <- Pop16(); IME <- 1; ei_pending <- 0` (41_control R259). -/
def reti (s : State) : State := s.returnFromInterrupt

/-- JR e: `18`, 12 T-cycles (41_control R253). -/
def execJr_e (e : Int) (s : State) : Result := .next (jumpRel e (s.pass 2 12))

/-- JR NZ,e: `20`, 8/12 T-cycles (41_control R254). -/
def execJr_NZ_e (e : Int) (s : State) : Result := .next (jumpRelCond .nz e (s.pass 2 8))

/-- JR Z,e: `28`, 8/12 T-cycles (41_control R254). -/
def execJr_Z_e (e : Int) (s : State) : Result := .next (jumpRelCond .z e (s.pass 2 8))

/-- JR NC,e: `30`, 8/12 T-cycles (41_control R254). -/
def execJr_NC_e (e : Int) (s : State) : Result := .next (jumpRelCond .nc e (s.pass 2 8))

/-- JR C,e: `38`, 8/12 T-cycles (41_control R254). -/
def execJr_C_e (e : Int) (s : State) : Result := .next (jumpRelCond .c e (s.pass 2 8))

/-- RET NZ: `C0`, 8/20 T-cycles (41_control R258). -/
def execRet_NZ (s : State) : Result := .next (retCond .nz (s.pass 1 8))

/-- JP NZ,nn: `C2`, 12/16 T-cycles (41_control R251). -/
def execJp_NZ_nn (nn : Word) (s : State) : Result := .next (jumpCond .nz nn (s.pass 3 12))

/-- JP nn: `C3`, 16 T-cycles (41_control R250). -/
def execJp_nn (nn : Word) (s : State) : Result := .next (jump nn (s.pass 3 16))

/-- CALL NZ,nn: `C4`, 12/24 T-cycles (41_control R256). -/
def execCall_NZ_nn (nn : Word) (s : State) : Result := .next (callCond .nz nn (s.pass 3 12))

/-- RST 00H: `C7`, 16 T-cycles (41_control R260). -/
def execRst_00H (s : State) : Result := .next (call 0x0000 (s.pass 1 16))

/-- RET Z: `C8`, 8/20 T-cycles (41_control R258). -/
def execRet_Z (s : State) : Result := .next (retCond .z (s.pass 1 8))

/-- RET: `C9`, 16 T-cycles (41_control R257). -/
def execRet (s : State) : Result := .next (ret (s.pass 1 16))

/-- JP Z,nn: `CA`, 12/16 T-cycles (41_control R251). -/
def execJp_Z_nn (nn : Word) (s : State) : Result := .next (jumpCond .z nn (s.pass 3 12))

/-- CALL Z,nn: `CC`, 12/24 T-cycles (41_control R256). -/
def execCall_Z_nn (nn : Word) (s : State) : Result := .next (callCond .z nn (s.pass 3 12))

/-- CALL nn: `CD`, 24 T-cycles (41_control R255). -/
def execCall_nn (nn : Word) (s : State) : Result := .next (call nn (s.pass 3 24))

/-- RST 08H: `CF`, 16 T-cycles (41_control R260). -/
def execRst_08H (s : State) : Result := .next (call 0x0008 (s.pass 1 16))

/-- RET NC: `D0`, 8/20 T-cycles (41_control R258). -/
def execRet_NC (s : State) : Result := .next (retCond .nc (s.pass 1 8))

/-- JP NC,nn: `D2`, 12/16 T-cycles (41_control R251). -/
def execJp_NC_nn (nn : Word) (s : State) : Result := .next (jumpCond .nc nn (s.pass 3 12))

/-- CALL NC,nn: `D4`, 12/24 T-cycles (41_control R256). -/
def execCall_NC_nn (nn : Word) (s : State) : Result := .next (callCond .nc nn (s.pass 3 12))

/-- RST 10H: `D7`, 16 T-cycles (41_control R260). -/
def execRst_10H (s : State) : Result := .next (call 0x0010 (s.pass 1 16))

/-- RET C: `D8`, 8/20 T-cycles (41_control R258). -/
def execRet_C (s : State) : Result := .next (retCond .c (s.pass 1 8))

/-- RETI: `D9`, 16 T-cycles (41_control R259). -/
def execReti (s : State) : Result := .next (reti (s.pass 1 16))

/-- JP C,nn: `DA`, 12/16 T-cycles (41_control R251). -/
def execJp_C_nn (nn : Word) (s : State) : Result := .next (jumpCond .c nn (s.pass 3 12))

/-- CALL C,nn: `DC`, 12/24 T-cycles (41_control R256). -/
def execCall_C_nn (nn : Word) (s : State) : Result := .next (callCond .c nn (s.pass 3 12))

/-- RST 18H: `DF`, 16 T-cycles (41_control R260). -/
def execRst_18H (s : State) : Result := .next (call 0x0018 (s.pass 1 16))

/-- RST 20H: `E7`, 16 T-cycles (41_control R260). -/
def execRst_20H (s : State) : Result := .next (call 0x0020 (s.pass 1 16))

/-- JP HL: `E9`, 4 T-cycles (41_control R252). -/
def execJp_HL (s : State) : Result := .next (jumpHL (s.pass 1 4))

/-- RST 28H: `EF`, 16 T-cycles (41_control R260). -/
def execRst_28H (s : State) : Result := .next (call 0x0028 (s.pass 1 16))

/-- RST 30H: `F7`, 16 T-cycles (41_control R260). -/
def execRst_30H (s : State) : Result := .next (call 0x0030 (s.pass 1 16))

/-- RST 38H: `FF`, 16 T-cycles (41_control R260). -/
def execRst_38H (s : State) : Result := .next (call 0x0038 (s.pass 1 16))

end Sys2Proof.Machine
end

