-- ==== Sys2Proof/Machine/IncDec.lean ====
section
/-! DEFINITION. The 8-bit and 16-bit increments and decrements (42_incdec). First what each rule does, in the state already past the instruction; then one meaning for each row
of the opcode table. -/

namespace Sys2Proof.Machine

/-- Increment a register: Z, N and H; the carry is kept (42_incdec R280). -/
def incReg (r : Reg8) (s : State) : State :=
  (s.setReg r (inc8 (s.reg r) s.flagC).res).setAluFlags (inc8 (s.reg r) s.flagC)

/-- Decrement a register: Z, N and H; the carry is kept (42_incdec R281). -/
def decReg (r : Reg8) (s : State) : State :=
  (s.setReg r (dec8 (s.reg r) s.flagC).res).setAluFlags (dec8 (s.reg r) s.flagC)

/-- Increment the byte at HL: one read, then one write (42_incdec R282). -/
def incAtHL (s : State) : State :=
  (s.busWrite s.hl (inc8 (s.busRead s.hl) s.flagC).res).setAluFlags (inc8 (s.busRead s.hl) s.flagC)

/-- Decrement the byte at HL: one read, then one write (42_incdec R283). -/
def decAtHL (s : State) : State :=
  (s.busWrite s.hl (dec8 (s.busRead s.hl) s.flagC).res).setAluFlags (dec8 (s.busRead s.hl) s.flagC)

/-- `x[rr] <- x[rr] + 1`, no flag (42_incdec R284). -/
def incPair (p : Reg16) (s : State) : State := s.setPair p (s.pair p + 1)

/-- `x[rr] <- x[rr] - 1`, no flag (42_incdec R285). -/
def decPair (p : Reg16) (s : State) : State := s.setPair p (s.pair p - 1)

/-- INC BC: `03`, 8 T-cycles (42_incdec R284). -/
def execInc_BC (s : State) : Result := .next (incPair .bc (s.pass 1 8))

/-- INC B: `04`, 4 T-cycles (42_incdec R280). -/
def execInc_B (s : State) : Result := .next (incReg .b (s.pass 1 4))

/-- DEC B: `05`, 4 T-cycles (42_incdec R281). -/
def execDec_B (s : State) : Result := .next (decReg .b (s.pass 1 4))

/-- DEC BC: `0B`, 8 T-cycles (42_incdec R285). -/
def execDec_BC (s : State) : Result := .next (decPair .bc (s.pass 1 8))

/-- INC C: `0C`, 4 T-cycles (42_incdec R280). -/
def execInc_C (s : State) : Result := .next (incReg .c (s.pass 1 4))

/-- DEC C: `0D`, 4 T-cycles (42_incdec R281). -/
def execDec_C (s : State) : Result := .next (decReg .c (s.pass 1 4))

/-- INC DE: `13`, 8 T-cycles (42_incdec R284). -/
def execInc_DE (s : State) : Result := .next (incPair .de (s.pass 1 8))

/-- INC D: `14`, 4 T-cycles (42_incdec R280). -/
def execInc_D (s : State) : Result := .next (incReg .d (s.pass 1 4))

/-- DEC D: `15`, 4 T-cycles (42_incdec R281). -/
def execDec_D (s : State) : Result := .next (decReg .d (s.pass 1 4))

/-- DEC DE: `1B`, 8 T-cycles (42_incdec R285). -/
def execDec_DE (s : State) : Result := .next (decPair .de (s.pass 1 8))

/-- INC E: `1C`, 4 T-cycles (42_incdec R280). -/
def execInc_E (s : State) : Result := .next (incReg .e (s.pass 1 4))

/-- DEC E: `1D`, 4 T-cycles (42_incdec R281). -/
def execDec_E (s : State) : Result := .next (decReg .e (s.pass 1 4))

/-- INC HL: `23`, 8 T-cycles (42_incdec R284). -/
def execInc_HL (s : State) : Result := .next (incPair .hl (s.pass 1 8))

/-- INC H: `24`, 4 T-cycles (42_incdec R280). -/
def execInc_H (s : State) : Result := .next (incReg .h (s.pass 1 4))

/-- DEC H: `25`, 4 T-cycles (42_incdec R281). -/
def execDec_H (s : State) : Result := .next (decReg .h (s.pass 1 4))

/-- DEC HL: `2B`, 8 T-cycles (42_incdec R285). -/
def execDec_HL (s : State) : Result := .next (decPair .hl (s.pass 1 8))

/-- INC L: `2C`, 4 T-cycles (42_incdec R280). -/
def execInc_L (s : State) : Result := .next (incReg .l (s.pass 1 4))

/-- DEC L: `2D`, 4 T-cycles (42_incdec R281). -/
def execDec_L (s : State) : Result := .next (decReg .l (s.pass 1 4))

/-- INC SP: `33`, 8 T-cycles (42_incdec R284). -/
def execInc_SP (s : State) : Result := .next (incPair .sp (s.pass 1 8))

/-- INC (HL): `34`, 12 T-cycles (42_incdec R282). -/
def execInc_atHL (s : State) : Result := .next (incAtHL (s.pass 1 12))

/-- DEC (HL): `35`, 12 T-cycles (42_incdec R283). -/
def execDec_atHL (s : State) : Result := .next (decAtHL (s.pass 1 12))

/-- DEC SP: `3B`, 8 T-cycles (42_incdec R285). -/
def execDec_SP (s : State) : Result := .next (decPair .sp (s.pass 1 8))

/-- INC A: `3C`, 4 T-cycles (42_incdec R280). -/
def execInc_A (s : State) : Result := .next (incReg .a (s.pass 1 4))

/-- DEC A: `3D`, 4 T-cycles (42_incdec R281). -/
def execDec_A (s : State) : Result := .next (decReg .a (s.pass 1 4))

end Sys2Proof.Machine
end

