-- ==== Sys2Proof/Machine/Load.lean ====
section
/-! DEFINITION. The loads, and the stack push and pop (40_load). First what each rule does, in the state already past the instruction; then one meaning for each row
of the opcode table. -/

namespace Sys2Proof.Machine

/-- `x[r] <- x[r']` (40_load R201). -/
def ldRegReg (dst r : Reg8) (s : State) : State := s.setReg dst (s.reg r)

/-- `x[r] <- n` (40_load R202). -/
def ldRegImm (dst : Reg8) (n : Byte) (s : State) : State := s.setReg dst n

/-- `x[r] <- MemRead(x[HL], 1)` (40_load R203). -/
def ldRegAtHL (dst : Reg8) (s : State) : State := s.setReg dst (s.busRead s.hl)

/-- `MemWrite(x[HL], 1, x[r])` (40_load R204). -/
def ldAtHLReg (r : Reg8) (s : State) : State := s.busWrite s.hl (s.reg r)

/-- `MemWrite(x[HL], 1, n)` (40_load R205). -/
def ldAtHLImm (n : Byte) (s : State) : State := s.busWrite s.hl n

/-- `x[A] <- MemRead(x[rr], 1)` for BC and DE (40_load R206, R207). -/
def ldAAt (p : Reg16) (s : State) : State := s.setReg .a (s.busRead (s.pair p))

/-- `MemWrite(x[rr], 1, x[A])` for BC and DE (40_load R208, R209). -/
def ldAtA (p : Reg16) (s : State) : State := s.busWrite (s.pair p) (s.reg .a)

/-- `x[A] <- MemRead(nn, 1)` (40_load R210). -/
def ldAAbs (nn : Word) (s : State) : State := s.setReg .a (s.busRead nn)

/-- `MemWrite(nn, 1, x[A])` (40_load R211). -/
def ldAbsA (nn : Word) (s : State) : State := s.busWrite nn (s.reg .a)

/-- `x[A] <- MemRead(0xFF00 + n, 1)` (40_load R212). -/
def ldhA (n : Byte) (s : State) : State := s.setReg .a (s.busRead (highPage n))

/-- `MemWrite(0xFF00 + n, 1, x[A])` (40_load R213). -/
def ldhStoreA (n : Byte) (s : State) : State := s.busWrite (highPage n) (s.reg .a)

/-- `x[A] <- MemRead(0xFF00 + x[C], 1)` (40_load R214). -/
def ldAHighC (s : State) : State := s.setReg .a (s.busRead (highPage (s.reg .c)))

/-- `MemWrite(0xFF00 + x[C], 1, x[A])` (40_load R215). -/
def ldHighCA (s : State) : State := s.busWrite (highPage (s.reg .c)) (s.reg .a)

/-- `MemWrite(x[HL], 1, x[A]); x[HL] <- x[HL] + 1` (40_load R216). -/
def ldAtHLIncA (s : State) : State := (s.busWrite s.hl (s.reg .a)).incHL

/-- `x[A] <- MemRead(x[HL], 1); x[HL] <- x[HL] + 1` (40_load R217). -/
def ldAAtHLInc (s : State) : State := (s.setReg .a (s.busRead s.hl)).incHL

/-- `MemWrite(x[HL], 1, x[A]); x[HL] <- x[HL] - 1` (40_load R218). -/
def ldAtHLDecA (s : State) : State := (s.busWrite s.hl (s.reg .a)).decHL

/-- `x[A] <- MemRead(x[HL], 1); x[HL] <- x[HL] - 1` (40_load R219). -/
def ldAAtHLDec (s : State) : State := (s.setReg .a (s.busRead s.hl)).decHL

/-- `x[rr] <- nn` (40_load R220). -/
def ldPairImm (p : Reg16) (nn : Word) (s : State) : State := s.setPair p nn

/-- `MemWrite(nn, 2, x[SP])` (40_load R221). -/
def ldAbsSP (nn : Word) (s : State) : State := s.busWrite16 nn s.regs.sp

/-- `x[SP] <- x[HL]` (40_load R222). -/
def ldSPHL (s : State) : State := s.setSp s.hl

/-- `x[HL] <- x[SP] + e`, flags from the low byte of SP plus the unsigned byte (40_load R223). -/
def ldHLSPPlus (e : Int) (s : State) : State :=
  (s.setPair .hl (s.spPlus e)).setFlags false false (spHalfCarry s.regs.sp (dispByte e)) (spCarry s.regs.sp (dispByte e))

/-- `Push16(x[rr])` (40_load R224). -/
def push (q : StackReg) (s : State) : State := s.push16 (s.stackPair q)

/-- `x[rr] <- Pop16()`, for AF with F's low nibble dropped (40_load R225, R226). -/
def pop (q : StackReg) (s : State) : State := s.popDone.setStackPair q s.popValue

/-- LD BC,nn: `01`, 12 T-cycles (40_load R220). -/
def execLd_BC_nn (nn : Word) (s : State) : Result := .next (ldPairImm .bc nn (s.pass 3 12))

/-- LD (BC),A: `02`, 8 T-cycles (40_load R208). -/
def execLd_atBC_A (s : State) : Result := .next (ldAtA .bc (s.pass 1 8))

/-- LD B,n: `06`, 8 T-cycles (40_load R202). -/
def execLd_B_n (n : Byte) (s : State) : Result := .next (ldRegImm .b n (s.pass 2 8))

/-- LD (nn),SP: `08`, 20 T-cycles (40_load R221). -/
def execLd_atNn_SP (nn : Word) (s : State) : Result := .next (ldAbsSP nn (s.pass 3 20))

/-- LD A,(BC): `0A`, 8 T-cycles (40_load R206). -/
def execLd_A_atBC (s : State) : Result := .next (ldAAt .bc (s.pass 1 8))

/-- LD C,n: `0E`, 8 T-cycles (40_load R202). -/
def execLd_C_n (n : Byte) (s : State) : Result := .next (ldRegImm .c n (s.pass 2 8))

/-- LD DE,nn: `11`, 12 T-cycles (40_load R220). -/
def execLd_DE_nn (nn : Word) (s : State) : Result := .next (ldPairImm .de nn (s.pass 3 12))

/-- LD (DE),A: `12`, 8 T-cycles (40_load R209). -/
def execLd_atDE_A (s : State) : Result := .next (ldAtA .de (s.pass 1 8))

/-- LD D,n: `16`, 8 T-cycles (40_load R202). -/
def execLd_D_n (n : Byte) (s : State) : Result := .next (ldRegImm .d n (s.pass 2 8))

/-- LD A,(DE): `1A`, 8 T-cycles (40_load R207). -/
def execLd_A_atDE (s : State) : Result := .next (ldAAt .de (s.pass 1 8))

/-- LD E,n: `1E`, 8 T-cycles (40_load R202). -/
def execLd_E_n (n : Byte) (s : State) : Result := .next (ldRegImm .e n (s.pass 2 8))

/-- LD HL,nn: `21`, 12 T-cycles (40_load R220). -/
def execLd_HL_nn (nn : Word) (s : State) : Result := .next (ldPairImm .hl nn (s.pass 3 12))

/-- LD (HL+),A: `22`, 8 T-cycles (40_load R216). -/
def execLd_atHLinc_A (s : State) : Result := .next (ldAtHLIncA (s.pass 1 8))

/-- LD H,n: `26`, 8 T-cycles (40_load R202). -/
def execLd_H_n (n : Byte) (s : State) : Result := .next (ldRegImm .h n (s.pass 2 8))

/-- LD A,(HL+): `2A`, 8 T-cycles (40_load R217). -/
def execLd_A_atHLinc (s : State) : Result := .next (ldAAtHLInc (s.pass 1 8))

/-- LD L,n: `2E`, 8 T-cycles (40_load R202). -/
def execLd_L_n (n : Byte) (s : State) : Result := .next (ldRegImm .l n (s.pass 2 8))

/-- LD SP,nn: `31`, 12 T-cycles (40_load R220). -/
def execLd_SP_nn (nn : Word) (s : State) : Result := .next (ldPairImm .sp nn (s.pass 3 12))

/-- LD (HL-),A: `32`, 8 T-cycles (40_load R218). -/
def execLd_atHLdec_A (s : State) : Result := .next (ldAtHLDecA (s.pass 1 8))

/-- LD (HL),n: `36`, 12 T-cycles (40_load R205). -/
def execLd_atHL_n (n : Byte) (s : State) : Result := .next (ldAtHLImm n (s.pass 2 12))

/-- LD A,(HL-): `3A`, 8 T-cycles (40_load R219). -/
def execLd_A_atHLdec (s : State) : Result := .next (ldAAtHLDec (s.pass 1 8))

/-- LD A,n: `3E`, 8 T-cycles (40_load R202). -/
def execLd_A_n (n : Byte) (s : State) : Result := .next (ldRegImm .a n (s.pass 2 8))

/-- LD B,B: `40`, 4 T-cycles (40_load R201). -/
def execLd_B_B (s : State) : Result := .next (ldRegReg .b .b (s.pass 1 4))

/-- LD B,C: `41`, 4 T-cycles (40_load R201). -/
def execLd_B_C (s : State) : Result := .next (ldRegReg .b .c (s.pass 1 4))

/-- LD B,D: `42`, 4 T-cycles (40_load R201). -/
def execLd_B_D (s : State) : Result := .next (ldRegReg .b .d (s.pass 1 4))

/-- LD B,E: `43`, 4 T-cycles (40_load R201). -/
def execLd_B_E (s : State) : Result := .next (ldRegReg .b .e (s.pass 1 4))

/-- LD B,H: `44`, 4 T-cycles (40_load R201). -/
def execLd_B_H (s : State) : Result := .next (ldRegReg .b .h (s.pass 1 4))

/-- LD B,L: `45`, 4 T-cycles (40_load R201). -/
def execLd_B_L (s : State) : Result := .next (ldRegReg .b .l (s.pass 1 4))

/-- LD B,(HL): `46`, 8 T-cycles (40_load R203). -/
def execLd_B_atHL (s : State) : Result := .next (ldRegAtHL .b (s.pass 1 8))

/-- LD B,A: `47`, 4 T-cycles (40_load R201). -/
def execLd_B_A (s : State) : Result := .next (ldRegReg .b .a (s.pass 1 4))

/-- LD C,B: `48`, 4 T-cycles (40_load R201). -/
def execLd_C_B (s : State) : Result := .next (ldRegReg .c .b (s.pass 1 4))

/-- LD C,C: `49`, 4 T-cycles (40_load R201). -/
def execLd_C_C (s : State) : Result := .next (ldRegReg .c .c (s.pass 1 4))

/-- LD C,D: `4A`, 4 T-cycles (40_load R201). -/
def execLd_C_D (s : State) : Result := .next (ldRegReg .c .d (s.pass 1 4))

/-- LD C,E: `4B`, 4 T-cycles (40_load R201). -/
def execLd_C_E (s : State) : Result := .next (ldRegReg .c .e (s.pass 1 4))

/-- LD C,H: `4C`, 4 T-cycles (40_load R201). -/
def execLd_C_H (s : State) : Result := .next (ldRegReg .c .h (s.pass 1 4))

/-- LD C,L: `4D`, 4 T-cycles (40_load R201). -/
def execLd_C_L (s : State) : Result := .next (ldRegReg .c .l (s.pass 1 4))

/-- LD C,(HL): `4E`, 8 T-cycles (40_load R203). -/
def execLd_C_atHL (s : State) : Result := .next (ldRegAtHL .c (s.pass 1 8))

/-- LD C,A: `4F`, 4 T-cycles (40_load R201). -/
def execLd_C_A (s : State) : Result := .next (ldRegReg .c .a (s.pass 1 4))

/-- LD D,B: `50`, 4 T-cycles (40_load R201). -/
def execLd_D_B (s : State) : Result := .next (ldRegReg .d .b (s.pass 1 4))

/-- LD D,C: `51`, 4 T-cycles (40_load R201). -/
def execLd_D_C (s : State) : Result := .next (ldRegReg .d .c (s.pass 1 4))

/-- LD D,D: `52`, 4 T-cycles (40_load R201). -/
def execLd_D_D (s : State) : Result := .next (ldRegReg .d .d (s.pass 1 4))

/-- LD D,E: `53`, 4 T-cycles (40_load R201). -/
def execLd_D_E (s : State) : Result := .next (ldRegReg .d .e (s.pass 1 4))

/-- LD D,H: `54`, 4 T-cycles (40_load R201). -/
def execLd_D_H (s : State) : Result := .next (ldRegReg .d .h (s.pass 1 4))

/-- LD D,L: `55`, 4 T-cycles (40_load R201). -/
def execLd_D_L (s : State) : Result := .next (ldRegReg .d .l (s.pass 1 4))

/-- LD D,(HL): `56`, 8 T-cycles (40_load R203). -/
def execLd_D_atHL (s : State) : Result := .next (ldRegAtHL .d (s.pass 1 8))

/-- LD D,A: `57`, 4 T-cycles (40_load R201). -/
def execLd_D_A (s : State) : Result := .next (ldRegReg .d .a (s.pass 1 4))

/-- LD E,B: `58`, 4 T-cycles (40_load R201). -/
def execLd_E_B (s : State) : Result := .next (ldRegReg .e .b (s.pass 1 4))

/-- LD E,C: `59`, 4 T-cycles (40_load R201). -/
def execLd_E_C (s : State) : Result := .next (ldRegReg .e .c (s.pass 1 4))

/-- LD E,D: `5A`, 4 T-cycles (40_load R201). -/
def execLd_E_D (s : State) : Result := .next (ldRegReg .e .d (s.pass 1 4))

/-- LD E,E: `5B`, 4 T-cycles (40_load R201). -/
def execLd_E_E (s : State) : Result := .next (ldRegReg .e .e (s.pass 1 4))

/-- LD E,H: `5C`, 4 T-cycles (40_load R201). -/
def execLd_E_H (s : State) : Result := .next (ldRegReg .e .h (s.pass 1 4))

/-- LD E,L: `5D`, 4 T-cycles (40_load R201). -/
def execLd_E_L (s : State) : Result := .next (ldRegReg .e .l (s.pass 1 4))

/-- LD E,(HL): `5E`, 8 T-cycles (40_load R203). -/
def execLd_E_atHL (s : State) : Result := .next (ldRegAtHL .e (s.pass 1 8))

/-- LD E,A: `5F`, 4 T-cycles (40_load R201). -/
def execLd_E_A (s : State) : Result := .next (ldRegReg .e .a (s.pass 1 4))

/-- LD H,B: `60`, 4 T-cycles (40_load R201). -/
def execLd_H_B (s : State) : Result := .next (ldRegReg .h .b (s.pass 1 4))

/-- LD H,C: `61`, 4 T-cycles (40_load R201). -/
def execLd_H_C (s : State) : Result := .next (ldRegReg .h .c (s.pass 1 4))

/-- LD H,D: `62`, 4 T-cycles (40_load R201). -/
def execLd_H_D (s : State) : Result := .next (ldRegReg .h .d (s.pass 1 4))

/-- LD H,E: `63`, 4 T-cycles (40_load R201). -/
def execLd_H_E (s : State) : Result := .next (ldRegReg .h .e (s.pass 1 4))

/-- LD H,H: `64`, 4 T-cycles (40_load R201). -/
def execLd_H_H (s : State) : Result := .next (ldRegReg .h .h (s.pass 1 4))

/-- LD H,L: `65`, 4 T-cycles (40_load R201). -/
def execLd_H_L (s : State) : Result := .next (ldRegReg .h .l (s.pass 1 4))

/-- LD H,(HL): `66`, 8 T-cycles (40_load R203). -/
def execLd_H_atHL (s : State) : Result := .next (ldRegAtHL .h (s.pass 1 8))

/-- LD H,A: `67`, 4 T-cycles (40_load R201). -/
def execLd_H_A (s : State) : Result := .next (ldRegReg .h .a (s.pass 1 4))

/-- LD L,B: `68`, 4 T-cycles (40_load R201). -/
def execLd_L_B (s : State) : Result := .next (ldRegReg .l .b (s.pass 1 4))

/-- LD L,C: `69`, 4 T-cycles (40_load R201). -/
def execLd_L_C (s : State) : Result := .next (ldRegReg .l .c (s.pass 1 4))

/-- LD L,D: `6A`, 4 T-cycles (40_load R201). -/
def execLd_L_D (s : State) : Result := .next (ldRegReg .l .d (s.pass 1 4))

/-- LD L,E: `6B`, 4 T-cycles (40_load R201). -/
def execLd_L_E (s : State) : Result := .next (ldRegReg .l .e (s.pass 1 4))

/-- LD L,H: `6C`, 4 T-cycles (40_load R201). -/
def execLd_L_H (s : State) : Result := .next (ldRegReg .l .h (s.pass 1 4))

/-- LD L,L: `6D`, 4 T-cycles (40_load R201). -/
def execLd_L_L (s : State) : Result := .next (ldRegReg .l .l (s.pass 1 4))

/-- LD L,(HL): `6E`, 8 T-cycles (40_load R203). -/
def execLd_L_atHL (s : State) : Result := .next (ldRegAtHL .l (s.pass 1 8))

/-- LD L,A: `6F`, 4 T-cycles (40_load R201). -/
def execLd_L_A (s : State) : Result := .next (ldRegReg .l .a (s.pass 1 4))

/-- LD (HL),B: `70`, 8 T-cycles (40_load R204). -/
def execLd_atHL_B (s : State) : Result := .next (ldAtHLReg .b (s.pass 1 8))

/-- LD (HL),C: `71`, 8 T-cycles (40_load R204). -/
def execLd_atHL_C (s : State) : Result := .next (ldAtHLReg .c (s.pass 1 8))

/-- LD (HL),D: `72`, 8 T-cycles (40_load R204). -/
def execLd_atHL_D (s : State) : Result := .next (ldAtHLReg .d (s.pass 1 8))

/-- LD (HL),E: `73`, 8 T-cycles (40_load R204). -/
def execLd_atHL_E (s : State) : Result := .next (ldAtHLReg .e (s.pass 1 8))

/-- LD (HL),H: `74`, 8 T-cycles (40_load R204). -/
def execLd_atHL_H (s : State) : Result := .next (ldAtHLReg .h (s.pass 1 8))

/-- LD (HL),L: `75`, 8 T-cycles (40_load R204). -/
def execLd_atHL_L (s : State) : Result := .next (ldAtHLReg .l (s.pass 1 8))

/-- LD (HL),A: `77`, 8 T-cycles (40_load R204). -/
def execLd_atHL_A (s : State) : Result := .next (ldAtHLReg .a (s.pass 1 8))

/-- LD A,B: `78`, 4 T-cycles (40_load R201). -/
def execLd_A_B (s : State) : Result := .next (ldRegReg .a .b (s.pass 1 4))

/-- LD A,C: `79`, 4 T-cycles (40_load R201). -/
def execLd_A_C (s : State) : Result := .next (ldRegReg .a .c (s.pass 1 4))

/-- LD A,D: `7A`, 4 T-cycles (40_load R201). -/
def execLd_A_D (s : State) : Result := .next (ldRegReg .a .d (s.pass 1 4))

/-- LD A,E: `7B`, 4 T-cycles (40_load R201). -/
def execLd_A_E (s : State) : Result := .next (ldRegReg .a .e (s.pass 1 4))

/-- LD A,H: `7C`, 4 T-cycles (40_load R201). -/
def execLd_A_H (s : State) : Result := .next (ldRegReg .a .h (s.pass 1 4))

/-- LD A,L: `7D`, 4 T-cycles (40_load R201). -/
def execLd_A_L (s : State) : Result := .next (ldRegReg .a .l (s.pass 1 4))

/-- LD A,(HL): `7E`, 8 T-cycles (40_load R203). -/
def execLd_A_atHL (s : State) : Result := .next (ldRegAtHL .a (s.pass 1 8))

/-- LD A,A: `7F`, 4 T-cycles (40_load R201). -/
def execLd_A_A (s : State) : Result := .next (ldRegReg .a .a (s.pass 1 4))

/-- POP BC: `C1`, 12 T-cycles (40_load R225). -/
def execPop_BC (s : State) : Result := .next (pop .bc (s.pass 1 12))

/-- PUSH BC: `C5`, 16 T-cycles (40_load R224). -/
def execPush_BC (s : State) : Result := .next (push .bc (s.pass 1 16))

/-- POP DE: `D1`, 12 T-cycles (40_load R225). -/
def execPop_DE (s : State) : Result := .next (pop .de (s.pass 1 12))

/-- PUSH DE: `D5`, 16 T-cycles (40_load R224). -/
def execPush_DE (s : State) : Result := .next (push .de (s.pass 1 16))

/-- LDH (n),A: `E0`, 12 T-cycles (40_load R213). -/
def execLdh_atN_A (n : Byte) (s : State) : Result := .next (ldhStoreA n (s.pass 2 12))

/-- POP HL: `E1`, 12 T-cycles (40_load R225). -/
def execPop_HL (s : State) : Result := .next (pop .hl (s.pass 1 12))

/-- LD (C),A: `E2`, 8 T-cycles (40_load R215). -/
def execLd_atC_A (s : State) : Result := .next (ldHighCA (s.pass 1 8))

/-- PUSH HL: `E5`, 16 T-cycles (40_load R224). -/
def execPush_HL (s : State) : Result := .next (push .hl (s.pass 1 16))

/-- LD (nn),A: `EA`, 16 T-cycles (40_load R211). -/
def execLd_atNn_A (nn : Word) (s : State) : Result := .next (ldAbsA nn (s.pass 3 16))

/-- LDH A,(n): `F0`, 12 T-cycles (40_load R212). -/
def execLdh_A_atN (n : Byte) (s : State) : Result := .next (ldhA n (s.pass 2 12))

/-- POP AF: `F1`, 12 T-cycles (40_load R226). -/
def execPop_AF (s : State) : Result := .next (pop .af (s.pass 1 12))

/-- LD A,(C): `F2`, 8 T-cycles (40_load R214). -/
def execLd_A_atC (s : State) : Result := .next (ldAHighC (s.pass 1 8))

/-- PUSH AF: `F5`, 16 T-cycles (40_load R224). -/
def execPush_AF (s : State) : Result := .next (push .af (s.pass 1 16))

/-- LD HL,SP+e: `F8`, 12 T-cycles (40_load R223). -/
def execLd_HL_SPplusE (e : Int) (s : State) : Result := .next (ldHLSPPlus e (s.pass 2 12))

/-- LD SP,HL: `F9`, 8 T-cycles (40_load R222). -/
def execLd_SP_HL (s : State) : Result := .next (ldSPHL (s.pass 1 8))

/-- LD A,(nn): `FA`, 16 T-cycles (40_load R210). -/
def execLd_A_atNn (nn : Word) (s : State) : Result := .next (ldAAbs nn (s.pass 3 16))

end Sys2Proof.Machine
end

