-- ==== Sys2Proof/Machine/Misc.lean ====
section
/-! DEFINITION. NOP, HALT, STOP, the interrupt enable, the flag instructions, and the bytes with no handler (45_misc). First what each rule does, in the state already past the instruction; then one meaning for each row
of the opcode table. -/

namespace Sys2Proof.Machine

/-- NOP: nothing (45_misc R360). -/
def noOperation (s : State) : State := s

/-- HALT: a fault with IME = 0 and an enabled request pending, else halted, in the state already past the HALT (45_misc R361). -/
def haltOr (past s : State) : Result :=
  if s.ime = false ∧ s.pending ≠ 0 then .fault (.haltBug s.regs.pc) else .next { past with halted := true }

/-- `IME <- 0; ei_pending <- 0` (45_misc R363). -/
def disableInterrupts (s : State) : State := { s with ime := false, eiPending := false }

/-- `ei_pending <- 1`; IME follows at the end of the next instruction's step (45_misc R364, 60_exceptions R403). -/
def enableInterrupts (s : State) : State := { s with eiPending := true }

/-- DAA (45_misc R365). -/
def decimalAdjust (s : State) : State :=
  (s.setReg .a (daaOut (s.reg .a) s.flagN s.flagH s.flagC).res).setAluFlags (daaOut (s.reg .a) s.flagN s.flagH s.flagC)

/-- `x[A] <- x[A] ^ 0xFF; F.N <- 1; F.H <- 1` (45_misc R366). -/
def complementA (s : State) : State := (s.setReg .a (s.reg .a ^^^ 0xFF)).setFlags s.flagZ true true s.flagC

/-- `F.N <- 0; F.H <- 0; F.C <- 1` (45_misc R367). -/
def setCarry (s : State) : State := s.setFlags s.flagZ false false true

/-- `F.N <- 0; F.H <- 0; F.C <- 1 - F.C` (45_misc R368). -/
def complementCarry (s : State) : State := s.setFlags s.flagZ false false (!s.flagC)

/-- NOP: `00`, 4 T-cycles (45_misc R360). -/
def execNop (s : State) : Result := .next (noOperation (s.pass 1 4))

/-- STOP: `10`, 4 T-cycles (45_misc R362). -/
def execStop (_n : Byte) (s : State) : Result := .fault (.stop s.regs.pc)

/-- DAA: `27`, 4 T-cycles (45_misc R365). -/
def execDaa (s : State) : Result := .next (decimalAdjust (s.pass 1 4))

/-- CPL: `2F`, 4 T-cycles (45_misc R366). -/
def execCpl (s : State) : Result := .next (complementA (s.pass 1 4))

/-- SCF: `37`, 4 T-cycles (45_misc R367). -/
def execScf (s : State) : Result := .next (setCarry (s.pass 1 4))

/-- CCF: `3F`, 4 T-cycles (45_misc R368). -/
def execCcf (s : State) : Result := .next (complementCarry (s.pass 1 4))

/-- HALT: `76`, 4 T-cycles (45_misc R361). -/
def execHalt (s : State) : Result := haltOr (s.pass 1 4) s

/-- ILLEGAL_D3: `D3` (45_misc R369). -/
def execIllegal_D3 (s : State) : Result := .fault (.illegalOpcode 0xD3 s.regs.pc)

/-- ILLEGAL_DB: `DB` (45_misc R369). -/
def execIllegal_DB (s : State) : Result := .fault (.illegalOpcode 0xDB s.regs.pc)

/-- ILLEGAL_DD: `DD` (45_misc R369). -/
def execIllegal_DD (s : State) : Result := .fault (.illegalOpcode 0xDD s.regs.pc)

/-- ILLEGAL_E3: `E3` (45_misc R369). -/
def execIllegal_E3 (s : State) : Result := .fault (.illegalOpcode 0xE3 s.regs.pc)

/-- ILLEGAL_E4: `E4` (45_misc R369). -/
def execIllegal_E4 (s : State) : Result := .fault (.illegalOpcode 0xE4 s.regs.pc)

/-- ILLEGAL_EB: `EB` (45_misc R369). -/
def execIllegal_EB (s : State) : Result := .fault (.illegalOpcode 0xEB s.regs.pc)

/-- ILLEGAL_EC: `EC` (45_misc R369). -/
def execIllegal_EC (s : State) : Result := .fault (.illegalOpcode 0xEC s.regs.pc)

/-- ILLEGAL_ED: `ED` (45_misc R369). -/
def execIllegal_ED (s : State) : Result := .fault (.illegalOpcode 0xED s.regs.pc)

/-- DI: `F3`, 4 T-cycles (45_misc R363). -/
def execDi (s : State) : Result := .next (disableInterrupts (s.pass 1 4))

/-- ILLEGAL_F4: `F4` (45_misc R369). -/
def execIllegal_F4 (s : State) : Result := .fault (.illegalOpcode 0xF4 s.regs.pc)

/-- EI: `FB`, 4 T-cycles (45_misc R364). -/
def execEi (s : State) : Result := .next (enableInterrupts (s.pass 1 4))

/-- ILLEGAL_FC: `FC` (45_misc R369). -/
def execIllegal_FC (s : State) : Result := .fault (.illegalOpcode 0xFC s.regs.pc)

/-- ILLEGAL_FD: `FD` (45_misc R369). -/
def execIllegal_FD (s : State) : Result := .fault (.illegalOpcode 0xFD s.regs.pc)

end Sys2Proof.Machine
end

