-- ==== Sys2Proof/Machine/RotateShift.lean ====
section
/-! DEFINITION. The rotates, shifts, SWAP and the bit operations (44_rotate_shift). First what each rule does, in the state already past the instruction; then one meaning for each row
of the opcode table. -/

namespace Sys2Proof.Machine

/-- The accumulator rotates: as the CB rotate of A, with Z forced to 0 (44_rotate_shift R330 to R333). -/
def rotateA (op : RotOp) (s : State) : State :=
  (s.setReg .a (rotRes op (s.reg .a) s.flagC)).setFlags false false false (rotCarry op (s.reg .a))

/-- The CB rotates and shifts: read, write, then the flags (44_rotate_shift R335 to R342). -/
def rotateShift (op : RotOp) (o : Operand8) (s : State) : State :=
  (s.dst8 o (rotOut op (s.src8 o) s.flagC).res).setAluFlags (rotOut op (s.src8 o) s.flagC)

/-- `F.Z <- (v[b] == 0); F.N <- 0; F.H <- 1`; the operand is not written (44_rotate_shift R343). -/
def bitTest (b : Fin 8) (o : Operand8) (s : State) : State :=
  s.setFlags (!bitOf (s.src8 o) b.val) false true s.flagC

/-- `dst8(z) <- src8(z) & ~(1 << b)` (44_rotate_shift R344). -/
def bitReset (b : Fin 8) (o : Operand8) (s : State) : State := s.dst8 o (s.src8 o &&& ~~~(bitMask b))

/-- `dst8(z) <- src8(z) | (1 << b)` (44_rotate_shift R345). -/
def bitSet (b : Fin 8) (o : Operand8) (s : State) : State := s.dst8 o (s.src8 o ||| bitMask b)

/-- RLCA: `07`, 4 T-cycles (44_rotate_shift R330). -/
def execRlca (s : State) : Result := .next (rotateA .rlc (s.pass 1 4))

/-- RRCA: `0F`, 4 T-cycles (44_rotate_shift R331). -/
def execRrca (s : State) : Result := .next (rotateA .rrc (s.pass 1 4))

/-- RLA: `17`, 4 T-cycles (44_rotate_shift R332). -/
def execRla (s : State) : Result := .next (rotateA .rl (s.pass 1 4))

/-- RRA: `1F`, 4 T-cycles (44_rotate_shift R333). -/
def execRra (s : State) : Result := .next (rotateA .rr (s.pass 1 4))

/-- RLC B: `CB 00`, 8 T-cycles (44_rotate_shift R335). -/
def execRlc_B (s : State) : Result := .next (rotateShift .rlc (.reg .b) (s.pass 2 8))

/-- RLC C: `CB 01`, 8 T-cycles (44_rotate_shift R335). -/
def execRlc_C (s : State) : Result := .next (rotateShift .rlc (.reg .c) (s.pass 2 8))

/-- RLC D: `CB 02`, 8 T-cycles (44_rotate_shift R335). -/
def execRlc_D (s : State) : Result := .next (rotateShift .rlc (.reg .d) (s.pass 2 8))

/-- RLC E: `CB 03`, 8 T-cycles (44_rotate_shift R335). -/
def execRlc_E (s : State) : Result := .next (rotateShift .rlc (.reg .e) (s.pass 2 8))

/-- RLC H: `CB 04`, 8 T-cycles (44_rotate_shift R335). -/
def execRlc_H (s : State) : Result := .next (rotateShift .rlc (.reg .h) (s.pass 2 8))

/-- RLC L: `CB 05`, 8 T-cycles (44_rotate_shift R335). -/
def execRlc_L (s : State) : Result := .next (rotateShift .rlc (.reg .l) (s.pass 2 8))

/-- RLC (HL): `CB 06`, 16 T-cycles (44_rotate_shift R335). -/
def execRlc_atHL (s : State) : Result := .next (rotateShift .rlc .atHL (s.pass 2 16))

/-- RLC A: `CB 07`, 8 T-cycles (44_rotate_shift R335). -/
def execRlc_A (s : State) : Result := .next (rotateShift .rlc (.reg .a) (s.pass 2 8))

/-- RRC B: `CB 08`, 8 T-cycles (44_rotate_shift R336). -/
def execRrc_B (s : State) : Result := .next (rotateShift .rrc (.reg .b) (s.pass 2 8))

/-- RRC C: `CB 09`, 8 T-cycles (44_rotate_shift R336). -/
def execRrc_C (s : State) : Result := .next (rotateShift .rrc (.reg .c) (s.pass 2 8))

/-- RRC D: `CB 0A`, 8 T-cycles (44_rotate_shift R336). -/
def execRrc_D (s : State) : Result := .next (rotateShift .rrc (.reg .d) (s.pass 2 8))

/-- RRC E: `CB 0B`, 8 T-cycles (44_rotate_shift R336). -/
def execRrc_E (s : State) : Result := .next (rotateShift .rrc (.reg .e) (s.pass 2 8))

/-- RRC H: `CB 0C`, 8 T-cycles (44_rotate_shift R336). -/
def execRrc_H (s : State) : Result := .next (rotateShift .rrc (.reg .h) (s.pass 2 8))

/-- RRC L: `CB 0D`, 8 T-cycles (44_rotate_shift R336). -/
def execRrc_L (s : State) : Result := .next (rotateShift .rrc (.reg .l) (s.pass 2 8))

/-- RRC (HL): `CB 0E`, 16 T-cycles (44_rotate_shift R336). -/
def execRrc_atHL (s : State) : Result := .next (rotateShift .rrc .atHL (s.pass 2 16))

/-- RRC A: `CB 0F`, 8 T-cycles (44_rotate_shift R336). -/
def execRrc_A (s : State) : Result := .next (rotateShift .rrc (.reg .a) (s.pass 2 8))

/-- RL B: `CB 10`, 8 T-cycles (44_rotate_shift R337). -/
def execRl_B (s : State) : Result := .next (rotateShift .rl (.reg .b) (s.pass 2 8))

/-- RL C: `CB 11`, 8 T-cycles (44_rotate_shift R337). -/
def execRl_C (s : State) : Result := .next (rotateShift .rl (.reg .c) (s.pass 2 8))

/-- RL D: `CB 12`, 8 T-cycles (44_rotate_shift R337). -/
def execRl_D (s : State) : Result := .next (rotateShift .rl (.reg .d) (s.pass 2 8))

/-- RL E: `CB 13`, 8 T-cycles (44_rotate_shift R337). -/
def execRl_E (s : State) : Result := .next (rotateShift .rl (.reg .e) (s.pass 2 8))

/-- RL H: `CB 14`, 8 T-cycles (44_rotate_shift R337). -/
def execRl_H (s : State) : Result := .next (rotateShift .rl (.reg .h) (s.pass 2 8))

/-- RL L: `CB 15`, 8 T-cycles (44_rotate_shift R337). -/
def execRl_L (s : State) : Result := .next (rotateShift .rl (.reg .l) (s.pass 2 8))

/-- RL (HL): `CB 16`, 16 T-cycles (44_rotate_shift R337). -/
def execRl_atHL (s : State) : Result := .next (rotateShift .rl .atHL (s.pass 2 16))

/-- RL A: `CB 17`, 8 T-cycles (44_rotate_shift R337). -/
def execRl_A (s : State) : Result := .next (rotateShift .rl (.reg .a) (s.pass 2 8))

/-- RR B: `CB 18`, 8 T-cycles (44_rotate_shift R338). -/
def execRr_B (s : State) : Result := .next (rotateShift .rr (.reg .b) (s.pass 2 8))

/-- RR C: `CB 19`, 8 T-cycles (44_rotate_shift R338). -/
def execRr_C (s : State) : Result := .next (rotateShift .rr (.reg .c) (s.pass 2 8))

/-- RR D: `CB 1A`, 8 T-cycles (44_rotate_shift R338). -/
def execRr_D (s : State) : Result := .next (rotateShift .rr (.reg .d) (s.pass 2 8))

/-- RR E: `CB 1B`, 8 T-cycles (44_rotate_shift R338). -/
def execRr_E (s : State) : Result := .next (rotateShift .rr (.reg .e) (s.pass 2 8))

/-- RR H: `CB 1C`, 8 T-cycles (44_rotate_shift R338). -/
def execRr_H (s : State) : Result := .next (rotateShift .rr (.reg .h) (s.pass 2 8))

/-- RR L: `CB 1D`, 8 T-cycles (44_rotate_shift R338). -/
def execRr_L (s : State) : Result := .next (rotateShift .rr (.reg .l) (s.pass 2 8))

/-- RR (HL): `CB 1E`, 16 T-cycles (44_rotate_shift R338). -/
def execRr_atHL (s : State) : Result := .next (rotateShift .rr .atHL (s.pass 2 16))

/-- RR A: `CB 1F`, 8 T-cycles (44_rotate_shift R338). -/
def execRr_A (s : State) : Result := .next (rotateShift .rr (.reg .a) (s.pass 2 8))

/-- SLA B: `CB 20`, 8 T-cycles (44_rotate_shift R339). -/
def execSla_B (s : State) : Result := .next (rotateShift .sla (.reg .b) (s.pass 2 8))

/-- SLA C: `CB 21`, 8 T-cycles (44_rotate_shift R339). -/
def execSla_C (s : State) : Result := .next (rotateShift .sla (.reg .c) (s.pass 2 8))

/-- SLA D: `CB 22`, 8 T-cycles (44_rotate_shift R339). -/
def execSla_D (s : State) : Result := .next (rotateShift .sla (.reg .d) (s.pass 2 8))

/-- SLA E: `CB 23`, 8 T-cycles (44_rotate_shift R339). -/
def execSla_E (s : State) : Result := .next (rotateShift .sla (.reg .e) (s.pass 2 8))

/-- SLA H: `CB 24`, 8 T-cycles (44_rotate_shift R339). -/
def execSla_H (s : State) : Result := .next (rotateShift .sla (.reg .h) (s.pass 2 8))

/-- SLA L: `CB 25`, 8 T-cycles (44_rotate_shift R339). -/
def execSla_L (s : State) : Result := .next (rotateShift .sla (.reg .l) (s.pass 2 8))

/-- SLA (HL): `CB 26`, 16 T-cycles (44_rotate_shift R339). -/
def execSla_atHL (s : State) : Result := .next (rotateShift .sla .atHL (s.pass 2 16))

/-- SLA A: `CB 27`, 8 T-cycles (44_rotate_shift R339). -/
def execSla_A (s : State) : Result := .next (rotateShift .sla (.reg .a) (s.pass 2 8))

/-- SRA B: `CB 28`, 8 T-cycles (44_rotate_shift R340). -/
def execSra_B (s : State) : Result := .next (rotateShift .sra (.reg .b) (s.pass 2 8))

/-- SRA C: `CB 29`, 8 T-cycles (44_rotate_shift R340). -/
def execSra_C (s : State) : Result := .next (rotateShift .sra (.reg .c) (s.pass 2 8))

/-- SRA D: `CB 2A`, 8 T-cycles (44_rotate_shift R340). -/
def execSra_D (s : State) : Result := .next (rotateShift .sra (.reg .d) (s.pass 2 8))

/-- SRA E: `CB 2B`, 8 T-cycles (44_rotate_shift R340). -/
def execSra_E (s : State) : Result := .next (rotateShift .sra (.reg .e) (s.pass 2 8))

/-- SRA H: `CB 2C`, 8 T-cycles (44_rotate_shift R340). -/
def execSra_H (s : State) : Result := .next (rotateShift .sra (.reg .h) (s.pass 2 8))

/-- SRA L: `CB 2D`, 8 T-cycles (44_rotate_shift R340). -/
def execSra_L (s : State) : Result := .next (rotateShift .sra (.reg .l) (s.pass 2 8))

/-- SRA (HL): `CB 2E`, 16 T-cycles (44_rotate_shift R340). -/
def execSra_atHL (s : State) : Result := .next (rotateShift .sra .atHL (s.pass 2 16))

/-- SRA A: `CB 2F`, 8 T-cycles (44_rotate_shift R340). -/
def execSra_A (s : State) : Result := .next (rotateShift .sra (.reg .a) (s.pass 2 8))

/-- SWAP B: `CB 30`, 8 T-cycles (44_rotate_shift R341). -/
def execSwap_B (s : State) : Result := .next (rotateShift .swap (.reg .b) (s.pass 2 8))

/-- SWAP C: `CB 31`, 8 T-cycles (44_rotate_shift R341). -/
def execSwap_C (s : State) : Result := .next (rotateShift .swap (.reg .c) (s.pass 2 8))

/-- SWAP D: `CB 32`, 8 T-cycles (44_rotate_shift R341). -/
def execSwap_D (s : State) : Result := .next (rotateShift .swap (.reg .d) (s.pass 2 8))

/-- SWAP E: `CB 33`, 8 T-cycles (44_rotate_shift R341). -/
def execSwap_E (s : State) : Result := .next (rotateShift .swap (.reg .e) (s.pass 2 8))

/-- SWAP H: `CB 34`, 8 T-cycles (44_rotate_shift R341). -/
def execSwap_H (s : State) : Result := .next (rotateShift .swap (.reg .h) (s.pass 2 8))

/-- SWAP L: `CB 35`, 8 T-cycles (44_rotate_shift R341). -/
def execSwap_L (s : State) : Result := .next (rotateShift .swap (.reg .l) (s.pass 2 8))

/-- SWAP (HL): `CB 36`, 16 T-cycles (44_rotate_shift R341). -/
def execSwap_atHL (s : State) : Result := .next (rotateShift .swap .atHL (s.pass 2 16))

/-- SWAP A: `CB 37`, 8 T-cycles (44_rotate_shift R341). -/
def execSwap_A (s : State) : Result := .next (rotateShift .swap (.reg .a) (s.pass 2 8))

/-- SRL B: `CB 38`, 8 T-cycles (44_rotate_shift R342). -/
def execSrl_B (s : State) : Result := .next (rotateShift .srl (.reg .b) (s.pass 2 8))

/-- SRL C: `CB 39`, 8 T-cycles (44_rotate_shift R342). -/
def execSrl_C (s : State) : Result := .next (rotateShift .srl (.reg .c) (s.pass 2 8))

/-- SRL D: `CB 3A`, 8 T-cycles (44_rotate_shift R342). -/
def execSrl_D (s : State) : Result := .next (rotateShift .srl (.reg .d) (s.pass 2 8))

/-- SRL E: `CB 3B`, 8 T-cycles (44_rotate_shift R342). -/
def execSrl_E (s : State) : Result := .next (rotateShift .srl (.reg .e) (s.pass 2 8))

/-- SRL H: `CB 3C`, 8 T-cycles (44_rotate_shift R342). -/
def execSrl_H (s : State) : Result := .next (rotateShift .srl (.reg .h) (s.pass 2 8))

/-- SRL L: `CB 3D`, 8 T-cycles (44_rotate_shift R342). -/
def execSrl_L (s : State) : Result := .next (rotateShift .srl (.reg .l) (s.pass 2 8))

/-- SRL (HL): `CB 3E`, 16 T-cycles (44_rotate_shift R342). -/
def execSrl_atHL (s : State) : Result := .next (rotateShift .srl .atHL (s.pass 2 16))

/-- SRL A: `CB 3F`, 8 T-cycles (44_rotate_shift R342). -/
def execSrl_A (s : State) : Result := .next (rotateShift .srl (.reg .a) (s.pass 2 8))

/-- BIT 0,B: `CB 40`, 8 T-cycles (44_rotate_shift R343). -/
def execBit_0_B (s : State) : Result := .next (bitTest 0 (.reg .b) (s.pass 2 8))

/-- BIT 0,C: `CB 41`, 8 T-cycles (44_rotate_shift R343). -/
def execBit_0_C (s : State) : Result := .next (bitTest 0 (.reg .c) (s.pass 2 8))

/-- BIT 0,D: `CB 42`, 8 T-cycles (44_rotate_shift R343). -/
def execBit_0_D (s : State) : Result := .next (bitTest 0 (.reg .d) (s.pass 2 8))

/-- BIT 0,E: `CB 43`, 8 T-cycles (44_rotate_shift R343). -/
def execBit_0_E (s : State) : Result := .next (bitTest 0 (.reg .e) (s.pass 2 8))

/-- BIT 0,H: `CB 44`, 8 T-cycles (44_rotate_shift R343). -/
def execBit_0_H (s : State) : Result := .next (bitTest 0 (.reg .h) (s.pass 2 8))

/-- BIT 0,L: `CB 45`, 8 T-cycles (44_rotate_shift R343). -/
def execBit_0_L (s : State) : Result := .next (bitTest 0 (.reg .l) (s.pass 2 8))

/-- BIT 0,(HL): `CB 46`, 12 T-cycles (44_rotate_shift R343). -/
def execBit_0_atHL (s : State) : Result := .next (bitTest 0 .atHL (s.pass 2 12))

/-- BIT 0,A: `CB 47`, 8 T-cycles (44_rotate_shift R343). -/
def execBit_0_A (s : State) : Result := .next (bitTest 0 (.reg .a) (s.pass 2 8))

/-- BIT 1,B: `CB 48`, 8 T-cycles (44_rotate_shift R343). -/
def execBit_1_B (s : State) : Result := .next (bitTest 1 (.reg .b) (s.pass 2 8))

/-- BIT 1,C: `CB 49`, 8 T-cycles (44_rotate_shift R343). -/
def execBit_1_C (s : State) : Result := .next (bitTest 1 (.reg .c) (s.pass 2 8))

/-- BIT 1,D: `CB 4A`, 8 T-cycles (44_rotate_shift R343). -/
def execBit_1_D (s : State) : Result := .next (bitTest 1 (.reg .d) (s.pass 2 8))

/-- BIT 1,E: `CB 4B`, 8 T-cycles (44_rotate_shift R343). -/
def execBit_1_E (s : State) : Result := .next (bitTest 1 (.reg .e) (s.pass 2 8))

/-- BIT 1,H: `CB 4C`, 8 T-cycles (44_rotate_shift R343). -/
def execBit_1_H (s : State) : Result := .next (bitTest 1 (.reg .h) (s.pass 2 8))

/-- BIT 1,L: `CB 4D`, 8 T-cycles (44_rotate_shift R343). -/
def execBit_1_L (s : State) : Result := .next (bitTest 1 (.reg .l) (s.pass 2 8))

/-- BIT 1,(HL): `CB 4E`, 12 T-cycles (44_rotate_shift R343). -/
def execBit_1_atHL (s : State) : Result := .next (bitTest 1 .atHL (s.pass 2 12))

/-- BIT 1,A: `CB 4F`, 8 T-cycles (44_rotate_shift R343). -/
def execBit_1_A (s : State) : Result := .next (bitTest 1 (.reg .a) (s.pass 2 8))

/-- BIT 2,B: `CB 50`, 8 T-cycles (44_rotate_shift R343). -/
def execBit_2_B (s : State) : Result := .next (bitTest 2 (.reg .b) (s.pass 2 8))

/-- BIT 2,C: `CB 51`, 8 T-cycles (44_rotate_shift R343). -/
def execBit_2_C (s : State) : Result := .next (bitTest 2 (.reg .c) (s.pass 2 8))

/-- BIT 2,D: `CB 52`, 8 T-cycles (44_rotate_shift R343). -/
def execBit_2_D (s : State) : Result := .next (bitTest 2 (.reg .d) (s.pass 2 8))

/-- BIT 2,E: `CB 53`, 8 T-cycles (44_rotate_shift R343). -/
def execBit_2_E (s : State) : Result := .next (bitTest 2 (.reg .e) (s.pass 2 8))

/-- BIT 2,H: `CB 54`, 8 T-cycles (44_rotate_shift R343). -/
def execBit_2_H (s : State) : Result := .next (bitTest 2 (.reg .h) (s.pass 2 8))

/-- BIT 2,L: `CB 55`, 8 T-cycles (44_rotate_shift R343). -/
def execBit_2_L (s : State) : Result := .next (bitTest 2 (.reg .l) (s.pass 2 8))

/-- BIT 2,(HL): `CB 56`, 12 T-cycles (44_rotate_shift R343). -/
def execBit_2_atHL (s : State) : Result := .next (bitTest 2 .atHL (s.pass 2 12))

/-- BIT 2,A: `CB 57`, 8 T-cycles (44_rotate_shift R343). -/
def execBit_2_A (s : State) : Result := .next (bitTest 2 (.reg .a) (s.pass 2 8))

/-- BIT 3,B: `CB 58`, 8 T-cycles (44_rotate_shift R343). -/
def execBit_3_B (s : State) : Result := .next (bitTest 3 (.reg .b) (s.pass 2 8))

/-- BIT 3,C: `CB 59`, 8 T-cycles (44_rotate_shift R343). -/
def execBit_3_C (s : State) : Result := .next (bitTest 3 (.reg .c) (s.pass 2 8))

/-- BIT 3,D: `CB 5A`, 8 T-cycles (44_rotate_shift R343). -/
def execBit_3_D (s : State) : Result := .next (bitTest 3 (.reg .d) (s.pass 2 8))

/-- BIT 3,E: `CB 5B`, 8 T-cycles (44_rotate_shift R343). -/
def execBit_3_E (s : State) : Result := .next (bitTest 3 (.reg .e) (s.pass 2 8))

/-- BIT 3,H: `CB 5C`, 8 T-cycles (44_rotate_shift R343). -/
def execBit_3_H (s : State) : Result := .next (bitTest 3 (.reg .h) (s.pass 2 8))

/-- BIT 3,L: `CB 5D`, 8 T-cycles (44_rotate_shift R343). -/
def execBit_3_L (s : State) : Result := .next (bitTest 3 (.reg .l) (s.pass 2 8))

/-- BIT 3,(HL): `CB 5E`, 12 T-cycles (44_rotate_shift R343). -/
def execBit_3_atHL (s : State) : Result := .next (bitTest 3 .atHL (s.pass 2 12))

/-- BIT 3,A: `CB 5F`, 8 T-cycles (44_rotate_shift R343). -/
def execBit_3_A (s : State) : Result := .next (bitTest 3 (.reg .a) (s.pass 2 8))

/-- BIT 4,B: `CB 60`, 8 T-cycles (44_rotate_shift R343). -/
def execBit_4_B (s : State) : Result := .next (bitTest 4 (.reg .b) (s.pass 2 8))

/-- BIT 4,C: `CB 61`, 8 T-cycles (44_rotate_shift R343). -/
def execBit_4_C (s : State) : Result := .next (bitTest 4 (.reg .c) (s.pass 2 8))

/-- BIT 4,D: `CB 62`, 8 T-cycles (44_rotate_shift R343). -/
def execBit_4_D (s : State) : Result := .next (bitTest 4 (.reg .d) (s.pass 2 8))

/-- BIT 4,E: `CB 63`, 8 T-cycles (44_rotate_shift R343). -/
def execBit_4_E (s : State) : Result := .next (bitTest 4 (.reg .e) (s.pass 2 8))

/-- BIT 4,H: `CB 64`, 8 T-cycles (44_rotate_shift R343). -/
def execBit_4_H (s : State) : Result := .next (bitTest 4 (.reg .h) (s.pass 2 8))

/-- BIT 4,L: `CB 65`, 8 T-cycles (44_rotate_shift R343). -/
def execBit_4_L (s : State) : Result := .next (bitTest 4 (.reg .l) (s.pass 2 8))

/-- BIT 4,(HL): `CB 66`, 12 T-cycles (44_rotate_shift R343). -/
def execBit_4_atHL (s : State) : Result := .next (bitTest 4 .atHL (s.pass 2 12))

/-- BIT 4,A: `CB 67`, 8 T-cycles (44_rotate_shift R343). -/
def execBit_4_A (s : State) : Result := .next (bitTest 4 (.reg .a) (s.pass 2 8))

/-- BIT 5,B: `CB 68`, 8 T-cycles (44_rotate_shift R343). -/
def execBit_5_B (s : State) : Result := .next (bitTest 5 (.reg .b) (s.pass 2 8))

/-- BIT 5,C: `CB 69`, 8 T-cycles (44_rotate_shift R343). -/
def execBit_5_C (s : State) : Result := .next (bitTest 5 (.reg .c) (s.pass 2 8))

/-- BIT 5,D: `CB 6A`, 8 T-cycles (44_rotate_shift R343). -/
def execBit_5_D (s : State) : Result := .next (bitTest 5 (.reg .d) (s.pass 2 8))

/-- BIT 5,E: `CB 6B`, 8 T-cycles (44_rotate_shift R343). -/
def execBit_5_E (s : State) : Result := .next (bitTest 5 (.reg .e) (s.pass 2 8))

/-- BIT 5,H: `CB 6C`, 8 T-cycles (44_rotate_shift R343). -/
def execBit_5_H (s : State) : Result := .next (bitTest 5 (.reg .h) (s.pass 2 8))

/-- BIT 5,L: `CB 6D`, 8 T-cycles (44_rotate_shift R343). -/
def execBit_5_L (s : State) : Result := .next (bitTest 5 (.reg .l) (s.pass 2 8))

/-- BIT 5,(HL): `CB 6E`, 12 T-cycles (44_rotate_shift R343). -/
def execBit_5_atHL (s : State) : Result := .next (bitTest 5 .atHL (s.pass 2 12))

/-- BIT 5,A: `CB 6F`, 8 T-cycles (44_rotate_shift R343). -/
def execBit_5_A (s : State) : Result := .next (bitTest 5 (.reg .a) (s.pass 2 8))

/-- BIT 6,B: `CB 70`, 8 T-cycles (44_rotate_shift R343). -/
def execBit_6_B (s : State) : Result := .next (bitTest 6 (.reg .b) (s.pass 2 8))

/-- BIT 6,C: `CB 71`, 8 T-cycles (44_rotate_shift R343). -/
def execBit_6_C (s : State) : Result := .next (bitTest 6 (.reg .c) (s.pass 2 8))

/-- BIT 6,D: `CB 72`, 8 T-cycles (44_rotate_shift R343). -/
def execBit_6_D (s : State) : Result := .next (bitTest 6 (.reg .d) (s.pass 2 8))

/-- BIT 6,E: `CB 73`, 8 T-cycles (44_rotate_shift R343). -/
def execBit_6_E (s : State) : Result := .next (bitTest 6 (.reg .e) (s.pass 2 8))

/-- BIT 6,H: `CB 74`, 8 T-cycles (44_rotate_shift R343). -/
def execBit_6_H (s : State) : Result := .next (bitTest 6 (.reg .h) (s.pass 2 8))

/-- BIT 6,L: `CB 75`, 8 T-cycles (44_rotate_shift R343). -/
def execBit_6_L (s : State) : Result := .next (bitTest 6 (.reg .l) (s.pass 2 8))

/-- BIT 6,(HL): `CB 76`, 12 T-cycles (44_rotate_shift R343). -/
def execBit_6_atHL (s : State) : Result := .next (bitTest 6 .atHL (s.pass 2 12))

/-- BIT 6,A: `CB 77`, 8 T-cycles (44_rotate_shift R343). -/
def execBit_6_A (s : State) : Result := .next (bitTest 6 (.reg .a) (s.pass 2 8))

/-- BIT 7,B: `CB 78`, 8 T-cycles (44_rotate_shift R343). -/
def execBit_7_B (s : State) : Result := .next (bitTest 7 (.reg .b) (s.pass 2 8))

/-- BIT 7,C: `CB 79`, 8 T-cycles (44_rotate_shift R343). -/
def execBit_7_C (s : State) : Result := .next (bitTest 7 (.reg .c) (s.pass 2 8))

/-- BIT 7,D: `CB 7A`, 8 T-cycles (44_rotate_shift R343). -/
def execBit_7_D (s : State) : Result := .next (bitTest 7 (.reg .d) (s.pass 2 8))

/-- BIT 7,E: `CB 7B`, 8 T-cycles (44_rotate_shift R343). -/
def execBit_7_E (s : State) : Result := .next (bitTest 7 (.reg .e) (s.pass 2 8))

/-- BIT 7,H: `CB 7C`, 8 T-cycles (44_rotate_shift R343). -/
def execBit_7_H (s : State) : Result := .next (bitTest 7 (.reg .h) (s.pass 2 8))

/-- BIT 7,L: `CB 7D`, 8 T-cycles (44_rotate_shift R343). -/
def execBit_7_L (s : State) : Result := .next (bitTest 7 (.reg .l) (s.pass 2 8))

/-- BIT 7,(HL): `CB 7E`, 12 T-cycles (44_rotate_shift R343). -/
def execBit_7_atHL (s : State) : Result := .next (bitTest 7 .atHL (s.pass 2 12))

/-- BIT 7,A: `CB 7F`, 8 T-cycles (44_rotate_shift R343). -/
def execBit_7_A (s : State) : Result := .next (bitTest 7 (.reg .a) (s.pass 2 8))

/-- RES 0,B: `CB 80`, 8 T-cycles (44_rotate_shift R344). -/
def execRes_0_B (s : State) : Result := .next (bitReset 0 (.reg .b) (s.pass 2 8))

/-- RES 0,C: `CB 81`, 8 T-cycles (44_rotate_shift R344). -/
def execRes_0_C (s : State) : Result := .next (bitReset 0 (.reg .c) (s.pass 2 8))

/-- RES 0,D: `CB 82`, 8 T-cycles (44_rotate_shift R344). -/
def execRes_0_D (s : State) : Result := .next (bitReset 0 (.reg .d) (s.pass 2 8))

/-- RES 0,E: `CB 83`, 8 T-cycles (44_rotate_shift R344). -/
def execRes_0_E (s : State) : Result := .next (bitReset 0 (.reg .e) (s.pass 2 8))

/-- RES 0,H: `CB 84`, 8 T-cycles (44_rotate_shift R344). -/
def execRes_0_H (s : State) : Result := .next (bitReset 0 (.reg .h) (s.pass 2 8))

/-- RES 0,L: `CB 85`, 8 T-cycles (44_rotate_shift R344). -/
def execRes_0_L (s : State) : Result := .next (bitReset 0 (.reg .l) (s.pass 2 8))

/-- RES 0,(HL): `CB 86`, 16 T-cycles (44_rotate_shift R344). -/
def execRes_0_atHL (s : State) : Result := .next (bitReset 0 .atHL (s.pass 2 16))

/-- RES 0,A: `CB 87`, 8 T-cycles (44_rotate_shift R344). -/
def execRes_0_A (s : State) : Result := .next (bitReset 0 (.reg .a) (s.pass 2 8))

/-- RES 1,B: `CB 88`, 8 T-cycles (44_rotate_shift R344). -/
def execRes_1_B (s : State) : Result := .next (bitReset 1 (.reg .b) (s.pass 2 8))

/-- RES 1,C: `CB 89`, 8 T-cycles (44_rotate_shift R344). -/
def execRes_1_C (s : State) : Result := .next (bitReset 1 (.reg .c) (s.pass 2 8))

/-- RES 1,D: `CB 8A`, 8 T-cycles (44_rotate_shift R344). -/
def execRes_1_D (s : State) : Result := .next (bitReset 1 (.reg .d) (s.pass 2 8))

/-- RES 1,E: `CB 8B`, 8 T-cycles (44_rotate_shift R344). -/
def execRes_1_E (s : State) : Result := .next (bitReset 1 (.reg .e) (s.pass 2 8))

/-- RES 1,H: `CB 8C`, 8 T-cycles (44_rotate_shift R344). -/
def execRes_1_H (s : State) : Result := .next (bitReset 1 (.reg .h) (s.pass 2 8))

/-- RES 1,L: `CB 8D`, 8 T-cycles (44_rotate_shift R344). -/
def execRes_1_L (s : State) : Result := .next (bitReset 1 (.reg .l) (s.pass 2 8))

/-- RES 1,(HL): `CB 8E`, 16 T-cycles (44_rotate_shift R344). -/
def execRes_1_atHL (s : State) : Result := .next (bitReset 1 .atHL (s.pass 2 16))

/-- RES 1,A: `CB 8F`, 8 T-cycles (44_rotate_shift R344). -/
def execRes_1_A (s : State) : Result := .next (bitReset 1 (.reg .a) (s.pass 2 8))

/-- RES 2,B: `CB 90`, 8 T-cycles (44_rotate_shift R344). -/
def execRes_2_B (s : State) : Result := .next (bitReset 2 (.reg .b) (s.pass 2 8))

/-- RES 2,C: `CB 91`, 8 T-cycles (44_rotate_shift R344). -/
def execRes_2_C (s : State) : Result := .next (bitReset 2 (.reg .c) (s.pass 2 8))

/-- RES 2,D: `CB 92`, 8 T-cycles (44_rotate_shift R344). -/
def execRes_2_D (s : State) : Result := .next (bitReset 2 (.reg .d) (s.pass 2 8))

/-- RES 2,E: `CB 93`, 8 T-cycles (44_rotate_shift R344). -/
def execRes_2_E (s : State) : Result := .next (bitReset 2 (.reg .e) (s.pass 2 8))

/-- RES 2,H: `CB 94`, 8 T-cycles (44_rotate_shift R344). -/
def execRes_2_H (s : State) : Result := .next (bitReset 2 (.reg .h) (s.pass 2 8))

/-- RES 2,L: `CB 95`, 8 T-cycles (44_rotate_shift R344). -/
def execRes_2_L (s : State) : Result := .next (bitReset 2 (.reg .l) (s.pass 2 8))

/-- RES 2,(HL): `CB 96`, 16 T-cycles (44_rotate_shift R344). -/
def execRes_2_atHL (s : State) : Result := .next (bitReset 2 .atHL (s.pass 2 16))

/-- RES 2,A: `CB 97`, 8 T-cycles (44_rotate_shift R344). -/
def execRes_2_A (s : State) : Result := .next (bitReset 2 (.reg .a) (s.pass 2 8))

/-- RES 3,B: `CB 98`, 8 T-cycles (44_rotate_shift R344). -/
def execRes_3_B (s : State) : Result := .next (bitReset 3 (.reg .b) (s.pass 2 8))

/-- RES 3,C: `CB 99`, 8 T-cycles (44_rotate_shift R344). -/
def execRes_3_C (s : State) : Result := .next (bitReset 3 (.reg .c) (s.pass 2 8))

/-- RES 3,D: `CB 9A`, 8 T-cycles (44_rotate_shift R344). -/
def execRes_3_D (s : State) : Result := .next (bitReset 3 (.reg .d) (s.pass 2 8))

/-- RES 3,E: `CB 9B`, 8 T-cycles (44_rotate_shift R344). -/
def execRes_3_E (s : State) : Result := .next (bitReset 3 (.reg .e) (s.pass 2 8))

/-- RES 3,H: `CB 9C`, 8 T-cycles (44_rotate_shift R344). -/
def execRes_3_H (s : State) : Result := .next (bitReset 3 (.reg .h) (s.pass 2 8))

/-- RES 3,L: `CB 9D`, 8 T-cycles (44_rotate_shift R344). -/
def execRes_3_L (s : State) : Result := .next (bitReset 3 (.reg .l) (s.pass 2 8))

/-- RES 3,(HL): `CB 9E`, 16 T-cycles (44_rotate_shift R344). -/
def execRes_3_atHL (s : State) : Result := .next (bitReset 3 .atHL (s.pass 2 16))

/-- RES 3,A: `CB 9F`, 8 T-cycles (44_rotate_shift R344). -/
def execRes_3_A (s : State) : Result := .next (bitReset 3 (.reg .a) (s.pass 2 8))

/-- RES 4,B: `CB A0`, 8 T-cycles (44_rotate_shift R344). -/
def execRes_4_B (s : State) : Result := .next (bitReset 4 (.reg .b) (s.pass 2 8))

/-- RES 4,C: `CB A1`, 8 T-cycles (44_rotate_shift R344). -/
def execRes_4_C (s : State) : Result := .next (bitReset 4 (.reg .c) (s.pass 2 8))

/-- RES 4,D: `CB A2`, 8 T-cycles (44_rotate_shift R344). -/
def execRes_4_D (s : State) : Result := .next (bitReset 4 (.reg .d) (s.pass 2 8))

/-- RES 4,E: `CB A3`, 8 T-cycles (44_rotate_shift R344). -/
def execRes_4_E (s : State) : Result := .next (bitReset 4 (.reg .e) (s.pass 2 8))

/-- RES 4,H: `CB A4`, 8 T-cycles (44_rotate_shift R344). -/
def execRes_4_H (s : State) : Result := .next (bitReset 4 (.reg .h) (s.pass 2 8))

/-- RES 4,L: `CB A5`, 8 T-cycles (44_rotate_shift R344). -/
def execRes_4_L (s : State) : Result := .next (bitReset 4 (.reg .l) (s.pass 2 8))

/-- RES 4,(HL): `CB A6`, 16 T-cycles (44_rotate_shift R344). -/
def execRes_4_atHL (s : State) : Result := .next (bitReset 4 .atHL (s.pass 2 16))

/-- RES 4,A: `CB A7`, 8 T-cycles (44_rotate_shift R344). -/
def execRes_4_A (s : State) : Result := .next (bitReset 4 (.reg .a) (s.pass 2 8))

/-- RES 5,B: `CB A8`, 8 T-cycles (44_rotate_shift R344). -/
def execRes_5_B (s : State) : Result := .next (bitReset 5 (.reg .b) (s.pass 2 8))

/-- RES 5,C: `CB A9`, 8 T-cycles (44_rotate_shift R344). -/
def execRes_5_C (s : State) : Result := .next (bitReset 5 (.reg .c) (s.pass 2 8))

/-- RES 5,D: `CB AA`, 8 T-cycles (44_rotate_shift R344). -/
def execRes_5_D (s : State) : Result := .next (bitReset 5 (.reg .d) (s.pass 2 8))

/-- RES 5,E: `CB AB`, 8 T-cycles (44_rotate_shift R344). -/
def execRes_5_E (s : State) : Result := .next (bitReset 5 (.reg .e) (s.pass 2 8))

/-- RES 5,H: `CB AC`, 8 T-cycles (44_rotate_shift R344). -/
def execRes_5_H (s : State) : Result := .next (bitReset 5 (.reg .h) (s.pass 2 8))

/-- RES 5,L: `CB AD`, 8 T-cycles (44_rotate_shift R344). -/
def execRes_5_L (s : State) : Result := .next (bitReset 5 (.reg .l) (s.pass 2 8))

/-- RES 5,(HL): `CB AE`, 16 T-cycles (44_rotate_shift R344). -/
def execRes_5_atHL (s : State) : Result := .next (bitReset 5 .atHL (s.pass 2 16))

/-- RES 5,A: `CB AF`, 8 T-cycles (44_rotate_shift R344). -/
def execRes_5_A (s : State) : Result := .next (bitReset 5 (.reg .a) (s.pass 2 8))

/-- RES 6,B: `CB B0`, 8 T-cycles (44_rotate_shift R344). -/
def execRes_6_B (s : State) : Result := .next (bitReset 6 (.reg .b) (s.pass 2 8))

/-- RES 6,C: `CB B1`, 8 T-cycles (44_rotate_shift R344). -/
def execRes_6_C (s : State) : Result := .next (bitReset 6 (.reg .c) (s.pass 2 8))

/-- RES 6,D: `CB B2`, 8 T-cycles (44_rotate_shift R344). -/
def execRes_6_D (s : State) : Result := .next (bitReset 6 (.reg .d) (s.pass 2 8))

/-- RES 6,E: `CB B3`, 8 T-cycles (44_rotate_shift R344). -/
def execRes_6_E (s : State) : Result := .next (bitReset 6 (.reg .e) (s.pass 2 8))

/-- RES 6,H: `CB B4`, 8 T-cycles (44_rotate_shift R344). -/
def execRes_6_H (s : State) : Result := .next (bitReset 6 (.reg .h) (s.pass 2 8))

/-- RES 6,L: `CB B5`, 8 T-cycles (44_rotate_shift R344). -/
def execRes_6_L (s : State) : Result := .next (bitReset 6 (.reg .l) (s.pass 2 8))

/-- RES 6,(HL): `CB B6`, 16 T-cycles (44_rotate_shift R344). -/
def execRes_6_atHL (s : State) : Result := .next (bitReset 6 .atHL (s.pass 2 16))

/-- RES 6,A: `CB B7`, 8 T-cycles (44_rotate_shift R344). -/
def execRes_6_A (s : State) : Result := .next (bitReset 6 (.reg .a) (s.pass 2 8))

/-- RES 7,B: `CB B8`, 8 T-cycles (44_rotate_shift R344). -/
def execRes_7_B (s : State) : Result := .next (bitReset 7 (.reg .b) (s.pass 2 8))

/-- RES 7,C: `CB B9`, 8 T-cycles (44_rotate_shift R344). -/
def execRes_7_C (s : State) : Result := .next (bitReset 7 (.reg .c) (s.pass 2 8))

/-- RES 7,D: `CB BA`, 8 T-cycles (44_rotate_shift R344). -/
def execRes_7_D (s : State) : Result := .next (bitReset 7 (.reg .d) (s.pass 2 8))

/-- RES 7,E: `CB BB`, 8 T-cycles (44_rotate_shift R344). -/
def execRes_7_E (s : State) : Result := .next (bitReset 7 (.reg .e) (s.pass 2 8))

/-- RES 7,H: `CB BC`, 8 T-cycles (44_rotate_shift R344). -/
def execRes_7_H (s : State) : Result := .next (bitReset 7 (.reg .h) (s.pass 2 8))

/-- RES 7,L: `CB BD`, 8 T-cycles (44_rotate_shift R344). -/
def execRes_7_L (s : State) : Result := .next (bitReset 7 (.reg .l) (s.pass 2 8))

/-- RES 7,(HL): `CB BE`, 16 T-cycles (44_rotate_shift R344). -/
def execRes_7_atHL (s : State) : Result := .next (bitReset 7 .atHL (s.pass 2 16))

/-- RES 7,A: `CB BF`, 8 T-cycles (44_rotate_shift R344). -/
def execRes_7_A (s : State) : Result := .next (bitReset 7 (.reg .a) (s.pass 2 8))

/-- SET 0,B: `CB C0`, 8 T-cycles (44_rotate_shift R345). -/
def execSet_0_B (s : State) : Result := .next (bitSet 0 (.reg .b) (s.pass 2 8))

/-- SET 0,C: `CB C1`, 8 T-cycles (44_rotate_shift R345). -/
def execSet_0_C (s : State) : Result := .next (bitSet 0 (.reg .c) (s.pass 2 8))

/-- SET 0,D: `CB C2`, 8 T-cycles (44_rotate_shift R345). -/
def execSet_0_D (s : State) : Result := .next (bitSet 0 (.reg .d) (s.pass 2 8))

/-- SET 0,E: `CB C3`, 8 T-cycles (44_rotate_shift R345). -/
def execSet_0_E (s : State) : Result := .next (bitSet 0 (.reg .e) (s.pass 2 8))

/-- SET 0,H: `CB C4`, 8 T-cycles (44_rotate_shift R345). -/
def execSet_0_H (s : State) : Result := .next (bitSet 0 (.reg .h) (s.pass 2 8))

/-- SET 0,L: `CB C5`, 8 T-cycles (44_rotate_shift R345). -/
def execSet_0_L (s : State) : Result := .next (bitSet 0 (.reg .l) (s.pass 2 8))

/-- SET 0,(HL): `CB C6`, 16 T-cycles (44_rotate_shift R345). -/
def execSet_0_atHL (s : State) : Result := .next (bitSet 0 .atHL (s.pass 2 16))

/-- SET 0,A: `CB C7`, 8 T-cycles (44_rotate_shift R345). -/
def execSet_0_A (s : State) : Result := .next (bitSet 0 (.reg .a) (s.pass 2 8))

/-- SET 1,B: `CB C8`, 8 T-cycles (44_rotate_shift R345). -/
def execSet_1_B (s : State) : Result := .next (bitSet 1 (.reg .b) (s.pass 2 8))

/-- SET 1,C: `CB C9`, 8 T-cycles (44_rotate_shift R345). -/
def execSet_1_C (s : State) : Result := .next (bitSet 1 (.reg .c) (s.pass 2 8))

/-- SET 1,D: `CB CA`, 8 T-cycles (44_rotate_shift R345). -/
def execSet_1_D (s : State) : Result := .next (bitSet 1 (.reg .d) (s.pass 2 8))

/-- SET 1,E: `CB CB`, 8 T-cycles (44_rotate_shift R345). -/
def execSet_1_E (s : State) : Result := .next (bitSet 1 (.reg .e) (s.pass 2 8))

/-- SET 1,H: `CB CC`, 8 T-cycles (44_rotate_shift R345). -/
def execSet_1_H (s : State) : Result := .next (bitSet 1 (.reg .h) (s.pass 2 8))

/-- SET 1,L: `CB CD`, 8 T-cycles (44_rotate_shift R345). -/
def execSet_1_L (s : State) : Result := .next (bitSet 1 (.reg .l) (s.pass 2 8))

/-- SET 1,(HL): `CB CE`, 16 T-cycles (44_rotate_shift R345). -/
def execSet_1_atHL (s : State) : Result := .next (bitSet 1 .atHL (s.pass 2 16))

/-- SET 1,A: `CB CF`, 8 T-cycles (44_rotate_shift R345). -/
def execSet_1_A (s : State) : Result := .next (bitSet 1 (.reg .a) (s.pass 2 8))

/-- SET 2,B: `CB D0`, 8 T-cycles (44_rotate_shift R345). -/
def execSet_2_B (s : State) : Result := .next (bitSet 2 (.reg .b) (s.pass 2 8))

/-- SET 2,C: `CB D1`, 8 T-cycles (44_rotate_shift R345). -/
def execSet_2_C (s : State) : Result := .next (bitSet 2 (.reg .c) (s.pass 2 8))

/-- SET 2,D: `CB D2`, 8 T-cycles (44_rotate_shift R345). -/
def execSet_2_D (s : State) : Result := .next (bitSet 2 (.reg .d) (s.pass 2 8))

/-- SET 2,E: `CB D3`, 8 T-cycles (44_rotate_shift R345). -/
def execSet_2_E (s : State) : Result := .next (bitSet 2 (.reg .e) (s.pass 2 8))

/-- SET 2,H: `CB D4`, 8 T-cycles (44_rotate_shift R345). -/
def execSet_2_H (s : State) : Result := .next (bitSet 2 (.reg .h) (s.pass 2 8))

/-- SET 2,L: `CB D5`, 8 T-cycles (44_rotate_shift R345). -/
def execSet_2_L (s : State) : Result := .next (bitSet 2 (.reg .l) (s.pass 2 8))

/-- SET 2,(HL): `CB D6`, 16 T-cycles (44_rotate_shift R345). -/
def execSet_2_atHL (s : State) : Result := .next (bitSet 2 .atHL (s.pass 2 16))

/-- SET 2,A: `CB D7`, 8 T-cycles (44_rotate_shift R345). -/
def execSet_2_A (s : State) : Result := .next (bitSet 2 (.reg .a) (s.pass 2 8))

/-- SET 3,B: `CB D8`, 8 T-cycles (44_rotate_shift R345). -/
def execSet_3_B (s : State) : Result := .next (bitSet 3 (.reg .b) (s.pass 2 8))

/-- SET 3,C: `CB D9`, 8 T-cycles (44_rotate_shift R345). -/
def execSet_3_C (s : State) : Result := .next (bitSet 3 (.reg .c) (s.pass 2 8))

/-- SET 3,D: `CB DA`, 8 T-cycles (44_rotate_shift R345). -/
def execSet_3_D (s : State) : Result := .next (bitSet 3 (.reg .d) (s.pass 2 8))

/-- SET 3,E: `CB DB`, 8 T-cycles (44_rotate_shift R345). -/
def execSet_3_E (s : State) : Result := .next (bitSet 3 (.reg .e) (s.pass 2 8))

/-- SET 3,H: `CB DC`, 8 T-cycles (44_rotate_shift R345). -/
def execSet_3_H (s : State) : Result := .next (bitSet 3 (.reg .h) (s.pass 2 8))

/-- SET 3,L: `CB DD`, 8 T-cycles (44_rotate_shift R345). -/
def execSet_3_L (s : State) : Result := .next (bitSet 3 (.reg .l) (s.pass 2 8))

/-- SET 3,(HL): `CB DE`, 16 T-cycles (44_rotate_shift R345). -/
def execSet_3_atHL (s : State) : Result := .next (bitSet 3 .atHL (s.pass 2 16))

/-- SET 3,A: `CB DF`, 8 T-cycles (44_rotate_shift R345). -/
def execSet_3_A (s : State) : Result := .next (bitSet 3 (.reg .a) (s.pass 2 8))

/-- SET 4,B: `CB E0`, 8 T-cycles (44_rotate_shift R345). -/
def execSet_4_B (s : State) : Result := .next (bitSet 4 (.reg .b) (s.pass 2 8))

/-- SET 4,C: `CB E1`, 8 T-cycles (44_rotate_shift R345). -/
def execSet_4_C (s : State) : Result := .next (bitSet 4 (.reg .c) (s.pass 2 8))

/-- SET 4,D: `CB E2`, 8 T-cycles (44_rotate_shift R345). -/
def execSet_4_D (s : State) : Result := .next (bitSet 4 (.reg .d) (s.pass 2 8))

/-- SET 4,E: `CB E3`, 8 T-cycles (44_rotate_shift R345). -/
def execSet_4_E (s : State) : Result := .next (bitSet 4 (.reg .e) (s.pass 2 8))

/-- SET 4,H: `CB E4`, 8 T-cycles (44_rotate_shift R345). -/
def execSet_4_H (s : State) : Result := .next (bitSet 4 (.reg .h) (s.pass 2 8))

/-- SET 4,L: `CB E5`, 8 T-cycles (44_rotate_shift R345). -/
def execSet_4_L (s : State) : Result := .next (bitSet 4 (.reg .l) (s.pass 2 8))

/-- SET 4,(HL): `CB E6`, 16 T-cycles (44_rotate_shift R345). -/
def execSet_4_atHL (s : State) : Result := .next (bitSet 4 .atHL (s.pass 2 16))

/-- SET 4,A: `CB E7`, 8 T-cycles (44_rotate_shift R345). -/
def execSet_4_A (s : State) : Result := .next (bitSet 4 (.reg .a) (s.pass 2 8))

/-- SET 5,B: `CB E8`, 8 T-cycles (44_rotate_shift R345). -/
def execSet_5_B (s : State) : Result := .next (bitSet 5 (.reg .b) (s.pass 2 8))

/-- SET 5,C: `CB E9`, 8 T-cycles (44_rotate_shift R345). -/
def execSet_5_C (s : State) : Result := .next (bitSet 5 (.reg .c) (s.pass 2 8))

/-- SET 5,D: `CB EA`, 8 T-cycles (44_rotate_shift R345). -/
def execSet_5_D (s : State) : Result := .next (bitSet 5 (.reg .d) (s.pass 2 8))

/-- SET 5,E: `CB EB`, 8 T-cycles (44_rotate_shift R345). -/
def execSet_5_E (s : State) : Result := .next (bitSet 5 (.reg .e) (s.pass 2 8))

/-- SET 5,H: `CB EC`, 8 T-cycles (44_rotate_shift R345). -/
def execSet_5_H (s : State) : Result := .next (bitSet 5 (.reg .h) (s.pass 2 8))

/-- SET 5,L: `CB ED`, 8 T-cycles (44_rotate_shift R345). -/
def execSet_5_L (s : State) : Result := .next (bitSet 5 (.reg .l) (s.pass 2 8))

/-- SET 5,(HL): `CB EE`, 16 T-cycles (44_rotate_shift R345). -/
def execSet_5_atHL (s : State) : Result := .next (bitSet 5 .atHL (s.pass 2 16))

/-- SET 5,A: `CB EF`, 8 T-cycles (44_rotate_shift R345). -/
def execSet_5_A (s : State) : Result := .next (bitSet 5 (.reg .a) (s.pass 2 8))

/-- SET 6,B: `CB F0`, 8 T-cycles (44_rotate_shift R345). -/
def execSet_6_B (s : State) : Result := .next (bitSet 6 (.reg .b) (s.pass 2 8))

/-- SET 6,C: `CB F1`, 8 T-cycles (44_rotate_shift R345). -/
def execSet_6_C (s : State) : Result := .next (bitSet 6 (.reg .c) (s.pass 2 8))

/-- SET 6,D: `CB F2`, 8 T-cycles (44_rotate_shift R345). -/
def execSet_6_D (s : State) : Result := .next (bitSet 6 (.reg .d) (s.pass 2 8))

/-- SET 6,E: `CB F3`, 8 T-cycles (44_rotate_shift R345). -/
def execSet_6_E (s : State) : Result := .next (bitSet 6 (.reg .e) (s.pass 2 8))

/-- SET 6,H: `CB F4`, 8 T-cycles (44_rotate_shift R345). -/
def execSet_6_H (s : State) : Result := .next (bitSet 6 (.reg .h) (s.pass 2 8))

/-- SET 6,L: `CB F5`, 8 T-cycles (44_rotate_shift R345). -/
def execSet_6_L (s : State) : Result := .next (bitSet 6 (.reg .l) (s.pass 2 8))

/-- SET 6,(HL): `CB F6`, 16 T-cycles (44_rotate_shift R345). -/
def execSet_6_atHL (s : State) : Result := .next (bitSet 6 .atHL (s.pass 2 16))

/-- SET 6,A: `CB F7`, 8 T-cycles (44_rotate_shift R345). -/
def execSet_6_A (s : State) : Result := .next (bitSet 6 (.reg .a) (s.pass 2 8))

/-- SET 7,B: `CB F8`, 8 T-cycles (44_rotate_shift R345). -/
def execSet_7_B (s : State) : Result := .next (bitSet 7 (.reg .b) (s.pass 2 8))

/-- SET 7,C: `CB F9`, 8 T-cycles (44_rotate_shift R345). -/
def execSet_7_C (s : State) : Result := .next (bitSet 7 (.reg .c) (s.pass 2 8))

/-- SET 7,D: `CB FA`, 8 T-cycles (44_rotate_shift R345). -/
def execSet_7_D (s : State) : Result := .next (bitSet 7 (.reg .d) (s.pass 2 8))

/-- SET 7,E: `CB FB`, 8 T-cycles (44_rotate_shift R345). -/
def execSet_7_E (s : State) : Result := .next (bitSet 7 (.reg .e) (s.pass 2 8))

/-- SET 7,H: `CB FC`, 8 T-cycles (44_rotate_shift R345). -/
def execSet_7_H (s : State) : Result := .next (bitSet 7 (.reg .h) (s.pass 2 8))

/-- SET 7,L: `CB FD`, 8 T-cycles (44_rotate_shift R345). -/
def execSet_7_L (s : State) : Result := .next (bitSet 7 (.reg .l) (s.pass 2 8))

/-- SET 7,(HL): `CB FE`, 16 T-cycles (44_rotate_shift R345). -/
def execSet_7_atHL (s : State) : Result := .next (bitSet 7 .atHL (s.pass 2 16))

/-- SET 7,A: `CB FF`, 8 T-cycles (44_rotate_shift R345). -/
def execSet_7_A (s : State) : Result := .next (bitSet 7 (.reg .a) (s.pass 2 8))

end Sys2Proof.Machine
end

