-- ==== Sys2Proof/WellFormed.lean ====
section
/-! DEFINITION. Which instruction terms an encoding exists for: a displacement must fit the signed byte that holds it. -/

namespace Sys2Proof

/-- A displacement is in -128..127 (30_encoding R156). -/
def dispOk (e : Int) : Bool := decide (-128 ≤ e) && decide (e ≤ 127)

/-- The check. The seven constructors with a displacement are checked; every other operand's type holds only what its field encodes. -/
def Instr.wellFormed : Instr → Bool
  | .jr_e e => dispOk e
  | .jr_NZ_e e => dispOk e
  | .jr_Z_e e => dispOk e
  | .jr_NC_e e => dispOk e
  | .jr_C_e e => dispOk e
  | .add_SP_e e => dispOk e
  | .ld_HL_SPplusE e => dispOk e
  | _ => true

end Sys2Proof
end

