-- ==== Sys2Proof/Decode.lean ====
section
/-! DEFINITION. The decoder: the opcode maps of 30_encoding R170 and R171 row by row, total on any bytes, and after it the encoder. -/

namespace Sys2Proof

open Sys2Proof.Machine (mkWord hiByte loByte sext8 dispByte hiNibble loNibble)

/-- The row 0x of the base opcode map (30_encoding R170). -/
def baseRow0 (n : Byte) (nn : Word) : List Instr :=
  [.nop, .ld_BC_nn nn, .ld_atBC_A, .inc_BC, .inc_B, .dec_B, .ld_B_n n, .rlca,
   .ld_atNn_SP nn, .add_HL_BC, .ld_A_atBC, .dec_BC, .inc_C, .dec_C, .ld_C_n n, .rrca]

/-- The row 1x of the base opcode map (30_encoding R170). -/
def baseRow1 (n : Byte) (nn : Word) : List Instr :=
  [.stop n, .ld_DE_nn nn, .ld_atDE_A, .inc_DE, .inc_D, .dec_D, .ld_D_n n, .rla,
   .jr_e (sext8 n), .add_HL_DE, .ld_A_atDE, .dec_DE, .inc_E, .dec_E, .ld_E_n n, .rra]

/-- The row 2x of the base opcode map (30_encoding R170). -/
def baseRow2 (n : Byte) (nn : Word) : List Instr :=
  [.jr_NZ_e (sext8 n), .ld_HL_nn nn, .ld_atHLinc_A, .inc_HL, .inc_H, .dec_H, .ld_H_n n, .daa,
   .jr_Z_e (sext8 n), .add_HL_HL, .ld_A_atHLinc, .dec_HL, .inc_L, .dec_L, .ld_L_n n, .cpl]

/-- The row 3x of the base opcode map (30_encoding R170). -/
def baseRow3 (n : Byte) (nn : Word) : List Instr :=
  [.jr_NC_e (sext8 n), .ld_SP_nn nn, .ld_atHLdec_A, .inc_SP, .inc_atHL, .dec_atHL, .ld_atHL_n n, .scf,
   .jr_C_e (sext8 n), .add_HL_SP, .ld_A_atHLdec, .dec_SP, .inc_A, .dec_A, .ld_A_n n, .ccf]

/-- The row 4x of the base opcode map (30_encoding R170). -/
def baseRow4 (_n : Byte) (_nn : Word) : List Instr :=
  [.ld_B_B, .ld_B_C, .ld_B_D, .ld_B_E, .ld_B_H, .ld_B_L, .ld_B_atHL, .ld_B_A,
   .ld_C_B, .ld_C_C, .ld_C_D, .ld_C_E, .ld_C_H, .ld_C_L, .ld_C_atHL, .ld_C_A]

/-- The row 5x of the base opcode map (30_encoding R170). -/
def baseRow5 (_n : Byte) (_nn : Word) : List Instr :=
  [.ld_D_B, .ld_D_C, .ld_D_D, .ld_D_E, .ld_D_H, .ld_D_L, .ld_D_atHL, .ld_D_A,
   .ld_E_B, .ld_E_C, .ld_E_D, .ld_E_E, .ld_E_H, .ld_E_L, .ld_E_atHL, .ld_E_A]

/-- The row 6x of the base opcode map (30_encoding R170). -/
def baseRow6 (_n : Byte) (_nn : Word) : List Instr :=
  [.ld_H_B, .ld_H_C, .ld_H_D, .ld_H_E, .ld_H_H, .ld_H_L, .ld_H_atHL, .ld_H_A,
   .ld_L_B, .ld_L_C, .ld_L_D, .ld_L_E, .ld_L_H, .ld_L_L, .ld_L_atHL, .ld_L_A]

/-- The row 7x of the base opcode map (30_encoding R170). -/
def baseRow7 (_n : Byte) (_nn : Word) : List Instr :=
  [.ld_atHL_B, .ld_atHL_C, .ld_atHL_D, .ld_atHL_E, .ld_atHL_H, .ld_atHL_L, .halt, .ld_atHL_A,
   .ld_A_B, .ld_A_C, .ld_A_D, .ld_A_E, .ld_A_H, .ld_A_L, .ld_A_atHL, .ld_A_A]

/-- The row 8x of the base opcode map (30_encoding R170). -/
def baseRow8 (_n : Byte) (_nn : Word) : List Instr :=
  [.add_A_B, .add_A_C, .add_A_D, .add_A_E, .add_A_H, .add_A_L, .add_A_atHL, .add_A_A,
   .adc_A_B, .adc_A_C, .adc_A_D, .adc_A_E, .adc_A_H, .adc_A_L, .adc_A_atHL, .adc_A_A]

/-- The row 9x of the base opcode map (30_encoding R170). -/
def baseRow9 (_n : Byte) (_nn : Word) : List Instr :=
  [.sub_A_B, .sub_A_C, .sub_A_D, .sub_A_E, .sub_A_H, .sub_A_L, .sub_A_atHL, .sub_A_A,
   .sbc_A_B, .sbc_A_C, .sbc_A_D, .sbc_A_E, .sbc_A_H, .sbc_A_L, .sbc_A_atHL, .sbc_A_A]

/-- The row Ax of the base opcode map (30_encoding R170). -/
def baseRowA (_n : Byte) (_nn : Word) : List Instr :=
  [.and_A_B, .and_A_C, .and_A_D, .and_A_E, .and_A_H, .and_A_L, .and_A_atHL, .and_A_A,
   .xor_A_B, .xor_A_C, .xor_A_D, .xor_A_E, .xor_A_H, .xor_A_L, .xor_A_atHL, .xor_A_A]

/-- The row Bx of the base opcode map (30_encoding R170). -/
def baseRowB (_n : Byte) (_nn : Word) : List Instr :=
  [.or_A_B, .or_A_C, .or_A_D, .or_A_E, .or_A_H, .or_A_L, .or_A_atHL, .or_A_A,
   .cp_A_B, .cp_A_C, .cp_A_D, .cp_A_E, .cp_A_H, .cp_A_L, .cp_A_atHL, .cp_A_A]

/-- The row Cx of the base opcode map (30_encoding R170). 0xCB is not looked up here (R171); its cell holds the instruction that the byte pair CB CB is (R177). -/
def baseRowC (n : Byte) (nn : Word) : List Instr :=
  [.ret_NZ, .pop_BC, .jp_NZ_nn nn, .jp_nn nn, .call_NZ_nn nn, .push_BC, .add_A_n n, .rst_00H,
   .ret_Z, .ret, .jp_Z_nn nn, .set_1_E, .call_Z_nn nn, .call_nn nn, .adc_A_n n, .rst_08H]

/-- The row Dx of the base opcode map (30_encoding R170). -/
def baseRowD (n : Byte) (nn : Word) : List Instr :=
  [.ret_NC, .pop_DE, .jp_NC_nn nn, .illegal_D3, .call_NC_nn nn, .push_DE, .sub_A_n n, .rst_10H,
   .ret_C, .reti, .jp_C_nn nn, .illegal_DB, .call_C_nn nn, .illegal_DD, .sbc_A_n n, .rst_18H]

/-- The row Ex of the base opcode map (30_encoding R170). -/
def baseRowE (n : Byte) (nn : Word) : List Instr :=
  [.ldh_atN_A n, .pop_HL, .ld_atC_A, .illegal_E3, .illegal_E4, .push_HL, .and_A_n n, .rst_20H,
   .add_SP_e (sext8 n), .jp_HL, .ld_atNn_A nn, .illegal_EB, .illegal_EC, .illegal_ED, .xor_A_n n, .rst_28H]

/-- The row Fx of the base opcode map (30_encoding R170). -/
def baseRowF (n : Byte) (nn : Word) : List Instr :=
  [.ldh_A_atN n, .pop_AF, .ld_A_atC, .di, .illegal_F4, .push_AF, .or_A_n n, .rst_30H,
   .ld_HL_SPplusE (sext8 n), .ld_SP_HL, .ld_A_atNn nn, .ei, .illegal_FC, .illegal_FD, .cp_A_n n, .rst_38H]

/-- The row 0x of the CB opcode map (30_encoding R171). -/
def cbRow0 : List Instr :=
  [.rlc_B, .rlc_C, .rlc_D, .rlc_E, .rlc_H, .rlc_L, .rlc_atHL, .rlc_A,
   .rrc_B, .rrc_C, .rrc_D, .rrc_E, .rrc_H, .rrc_L, .rrc_atHL, .rrc_A]

/-- The row 1x of the CB opcode map (30_encoding R171). -/
def cbRow1 : List Instr :=
  [.rl_B, .rl_C, .rl_D, .rl_E, .rl_H, .rl_L, .rl_atHL, .rl_A,
   .rr_B, .rr_C, .rr_D, .rr_E, .rr_H, .rr_L, .rr_atHL, .rr_A]

/-- The row 2x of the CB opcode map (30_encoding R171). -/
def cbRow2 : List Instr :=
  [.sla_B, .sla_C, .sla_D, .sla_E, .sla_H, .sla_L, .sla_atHL, .sla_A,
   .sra_B, .sra_C, .sra_D, .sra_E, .sra_H, .sra_L, .sra_atHL, .sra_A]

/-- The row 3x of the CB opcode map (30_encoding R171). -/
def cbRow3 : List Instr :=
  [.swap_B, .swap_C, .swap_D, .swap_E, .swap_H, .swap_L, .swap_atHL, .swap_A,
   .srl_B, .srl_C, .srl_D, .srl_E, .srl_H, .srl_L, .srl_atHL, .srl_A]

/-- The row 4x of the CB opcode map (30_encoding R171). -/
def cbRow4 : List Instr :=
  [.bit_0_B, .bit_0_C, .bit_0_D, .bit_0_E, .bit_0_H, .bit_0_L, .bit_0_atHL, .bit_0_A,
   .bit_1_B, .bit_1_C, .bit_1_D, .bit_1_E, .bit_1_H, .bit_1_L, .bit_1_atHL, .bit_1_A]

/-- The row 5x of the CB opcode map (30_encoding R171). -/
def cbRow5 : List Instr :=
  [.bit_2_B, .bit_2_C, .bit_2_D, .bit_2_E, .bit_2_H, .bit_2_L, .bit_2_atHL, .bit_2_A,
   .bit_3_B, .bit_3_C, .bit_3_D, .bit_3_E, .bit_3_H, .bit_3_L, .bit_3_atHL, .bit_3_A]

/-- The row 6x of the CB opcode map (30_encoding R171). -/
def cbRow6 : List Instr :=
  [.bit_4_B, .bit_4_C, .bit_4_D, .bit_4_E, .bit_4_H, .bit_4_L, .bit_4_atHL, .bit_4_A,
   .bit_5_B, .bit_5_C, .bit_5_D, .bit_5_E, .bit_5_H, .bit_5_L, .bit_5_atHL, .bit_5_A]

/-- The row 7x of the CB opcode map (30_encoding R171). -/
def cbRow7 : List Instr :=
  [.bit_6_B, .bit_6_C, .bit_6_D, .bit_6_E, .bit_6_H, .bit_6_L, .bit_6_atHL, .bit_6_A,
   .bit_7_B, .bit_7_C, .bit_7_D, .bit_7_E, .bit_7_H, .bit_7_L, .bit_7_atHL, .bit_7_A]

/-- The row 8x of the CB opcode map (30_encoding R171). -/
def cbRow8 : List Instr :=
  [.res_0_B, .res_0_C, .res_0_D, .res_0_E, .res_0_H, .res_0_L, .res_0_atHL, .res_0_A,
   .res_1_B, .res_1_C, .res_1_D, .res_1_E, .res_1_H, .res_1_L, .res_1_atHL, .res_1_A]

/-- The row 9x of the CB opcode map (30_encoding R171). -/
def cbRow9 : List Instr :=
  [.res_2_B, .res_2_C, .res_2_D, .res_2_E, .res_2_H, .res_2_L, .res_2_atHL, .res_2_A,
   .res_3_B, .res_3_C, .res_3_D, .res_3_E, .res_3_H, .res_3_L, .res_3_atHL, .res_3_A]

/-- The row Ax of the CB opcode map (30_encoding R171). -/
def cbRowA : List Instr :=
  [.res_4_B, .res_4_C, .res_4_D, .res_4_E, .res_4_H, .res_4_L, .res_4_atHL, .res_4_A,
   .res_5_B, .res_5_C, .res_5_D, .res_5_E, .res_5_H, .res_5_L, .res_5_atHL, .res_5_A]

/-- The row Bx of the CB opcode map (30_encoding R171). -/
def cbRowB : List Instr :=
  [.res_6_B, .res_6_C, .res_6_D, .res_6_E, .res_6_H, .res_6_L, .res_6_atHL, .res_6_A,
   .res_7_B, .res_7_C, .res_7_D, .res_7_E, .res_7_H, .res_7_L, .res_7_atHL, .res_7_A]

/-- The row Cx of the CB opcode map (30_encoding R171). -/
def cbRowC : List Instr :=
  [.set_0_B, .set_0_C, .set_0_D, .set_0_E, .set_0_H, .set_0_L, .set_0_atHL, .set_0_A,
   .set_1_B, .set_1_C, .set_1_D, .set_1_E, .set_1_H, .set_1_L, .set_1_atHL, .set_1_A]

/-- The row Dx of the CB opcode map (30_encoding R171). -/
def cbRowD : List Instr :=
  [.set_2_B, .set_2_C, .set_2_D, .set_2_E, .set_2_H, .set_2_L, .set_2_atHL, .set_2_A,
   .set_3_B, .set_3_C, .set_3_D, .set_3_E, .set_3_H, .set_3_L, .set_3_atHL, .set_3_A]

/-- The row Ex of the CB opcode map (30_encoding R171). -/
def cbRowE : List Instr :=
  [.set_4_B, .set_4_C, .set_4_D, .set_4_E, .set_4_H, .set_4_L, .set_4_atHL, .set_4_A,
   .set_5_B, .set_5_C, .set_5_D, .set_5_E, .set_5_H, .set_5_L, .set_5_atHL, .set_5_A]

/-- The row Fx of the CB opcode map (30_encoding R171). -/
def cbRowF : List Instr :=
  [.set_6_B, .set_6_C, .set_6_D, .set_6_E, .set_6_H, .set_6_L, .set_6_atHL, .set_6_A,
   .set_7_B, .set_7_C, .set_7_D, .set_7_E, .set_7_H, .set_7_L, .set_7_atHL, .set_7_A]

/-- The 16 rows of the base opcode map. -/
def baseMap (n : Byte) (nn : Word) : List (List Instr) :=
  [baseRow0 n nn, baseRow1 n nn, baseRow2 n nn, baseRow3 n nn,
   baseRow4 n nn, baseRow5 n nn, baseRow6 n nn, baseRow7 n nn,
   baseRow8 n nn, baseRow9 n nn, baseRowA n nn, baseRowB n nn,
   baseRowC n nn, baseRowD n nn, baseRowE n nn, baseRowF n nn]

/-- The 16 rows of the CB opcode map. -/
def cbMap : List (List Instr) :=
  [cbRow0, cbRow1, cbRow2, cbRow3, cbRow4, cbRow5, cbRow6, cbRow7,
   cbRow8, cbRow9, cbRowA, cbRowB, cbRowC, cbRowD, cbRowE, cbRowF]

/-- The cell of a 16 by 16 map at an opcode byte. Every byte has a cell (30_encoding R163), so the default is never taken. -/
def mapCell (m : List (List Instr)) (op : Byte) : Instr :=
  ((m.getD (hiNibble op) []).getD (loNibble op) .nop)

/-- Decode the three bytes at the program counter: the opcode byte and the two bytes after it, read whether or not the
instruction uses them (30_encoding R160, R161). Total (R163). -/
def decodeBytes (op n n2 : Byte) : Instr :=
  if op = 0xCB then mapCell cbMap n else mapCell (baseMap n (mkWord n2 n)) op

/-- The base opcodes of format F3 (30_encoding R150, R170). -/
def threeByteOpcodes : List Byte :=
  [0x01, 0x08, 0x11, 0x21, 0x31, 0xC2, 0xC3, 0xC4, 0xCA, 0xCC, 0xCD, 0xD2, 0xD4, 0xDA, 0xDC, 0xEA, 0xFA]

/-- The base opcodes of format F2, and the CB byte (30_encoding R150, R170). -/
def twoByteOpcodes : List Byte :=
  [0x06, 0x0E, 0x10, 0x16, 0x18, 0x1E, 0x20, 0x26, 0x28, 0x2E, 0x30, 0x36, 0x38, 0x3E, 0xC6, 0xCB, 0xCE, 0xD6, 0xDE, 0xE0, 0xE6, 0xE8, 0xEE, 0xF0, 0xF6, 0xF8, 0xFE]

/-- The length of an instruction, which its first byte alone gives (30_encoding R150). -/
def opcodeLength (op : Byte) : Nat :=
  if op ∈ threeByteOpcodes then 3 else if op ∈ twoByteOpcodes then 2 else 1

/-- Why a list of bytes holds no whole instruction. Every opcode byte has a row, so nothing else is refused. -/
inductive DecodeError where
  /-- There is no byte. -/
  | empty
  /-- The list ends before the instruction's last byte. -/
  | truncated
deriving DecidableEq, Repr

/-- Decode the instruction at the head of a list of bytes, and give back the rest of the list. -/
def decode : List Byte → Except DecodeError (Instr × List Byte)
  | [] => .error .empty
  | op :: rest =>
    if rest.length + 1 < opcodeLength op then .error .truncated
    else .ok (decodeBytes op (rest.getD 0 0) (rest.getD 1 0), rest.drop (opcodeLength op - 1))

/-- The bytes of an instruction (30_encoding R150, R170, R171): the opcode byte, or 0xCB and the CB opcode, then the immediate,
a word's low byte first (R156). -/
def encode : Instr → List Byte
  | .nop => [0x00]
  | .ld_BC_nn nn => [0x01, loByte nn, hiByte nn]
  | .ld_atBC_A => [0x02]
  | .inc_BC => [0x03]
  | .inc_B => [0x04]
  | .dec_B => [0x05]
  | .ld_B_n n => [0x06, n]
  | .rlca => [0x07]
  | .ld_atNn_SP nn => [0x08, loByte nn, hiByte nn]
  | .add_HL_BC => [0x09]
  | .ld_A_atBC => [0x0A]
  | .dec_BC => [0x0B]
  | .inc_C => [0x0C]
  | .dec_C => [0x0D]
  | .ld_C_n n => [0x0E, n]
  | .rrca => [0x0F]
  | .stop n => [0x10, n]
  | .ld_DE_nn nn => [0x11, loByte nn, hiByte nn]
  | .ld_atDE_A => [0x12]
  | .inc_DE => [0x13]
  | .inc_D => [0x14]
  | .dec_D => [0x15]
  | .ld_D_n n => [0x16, n]
  | .rla => [0x17]
  | .jr_e e => [0x18, dispByte e]
  | .add_HL_DE => [0x19]
  | .ld_A_atDE => [0x1A]
  | .dec_DE => [0x1B]
  | .inc_E => [0x1C]
  | .dec_E => [0x1D]
  | .ld_E_n n => [0x1E, n]
  | .rra => [0x1F]
  | .jr_NZ_e e => [0x20, dispByte e]
  | .ld_HL_nn nn => [0x21, loByte nn, hiByte nn]
  | .ld_atHLinc_A => [0x22]
  | .inc_HL => [0x23]
  | .inc_H => [0x24]
  | .dec_H => [0x25]
  | .ld_H_n n => [0x26, n]
  | .daa => [0x27]
  | .jr_Z_e e => [0x28, dispByte e]
  | .add_HL_HL => [0x29]
  | .ld_A_atHLinc => [0x2A]
  | .dec_HL => [0x2B]
  | .inc_L => [0x2C]
  | .dec_L => [0x2D]
  | .ld_L_n n => [0x2E, n]
  | .cpl => [0x2F]
  | .jr_NC_e e => [0x30, dispByte e]
  | .ld_SP_nn nn => [0x31, loByte nn, hiByte nn]
  | .ld_atHLdec_A => [0x32]
  | .inc_SP => [0x33]
  | .inc_atHL => [0x34]
  | .dec_atHL => [0x35]
  | .ld_atHL_n n => [0x36, n]
  | .scf => [0x37]
  | .jr_C_e e => [0x38, dispByte e]
  | .add_HL_SP => [0x39]
  | .ld_A_atHLdec => [0x3A]
  | .dec_SP => [0x3B]
  | .inc_A => [0x3C]
  | .dec_A => [0x3D]
  | .ld_A_n n => [0x3E, n]
  | .ccf => [0x3F]
  | .ld_B_B => [0x40]
  | .ld_B_C => [0x41]
  | .ld_B_D => [0x42]
  | .ld_B_E => [0x43]
  | .ld_B_H => [0x44]
  | .ld_B_L => [0x45]
  | .ld_B_atHL => [0x46]
  | .ld_B_A => [0x47]
  | .ld_C_B => [0x48]
  | .ld_C_C => [0x49]
  | .ld_C_D => [0x4A]
  | .ld_C_E => [0x4B]
  | .ld_C_H => [0x4C]
  | .ld_C_L => [0x4D]
  | .ld_C_atHL => [0x4E]
  | .ld_C_A => [0x4F]
  | .ld_D_B => [0x50]
  | .ld_D_C => [0x51]
  | .ld_D_D => [0x52]
  | .ld_D_E => [0x53]
  | .ld_D_H => [0x54]
  | .ld_D_L => [0x55]
  | .ld_D_atHL => [0x56]
  | .ld_D_A => [0x57]
  | .ld_E_B => [0x58]
  | .ld_E_C => [0x59]
  | .ld_E_D => [0x5A]
  | .ld_E_E => [0x5B]
  | .ld_E_H => [0x5C]
  | .ld_E_L => [0x5D]
  | .ld_E_atHL => [0x5E]
  | .ld_E_A => [0x5F]
  | .ld_H_B => [0x60]
  | .ld_H_C => [0x61]
  | .ld_H_D => [0x62]
  | .ld_H_E => [0x63]
  | .ld_H_H => [0x64]
  | .ld_H_L => [0x65]
  | .ld_H_atHL => [0x66]
  | .ld_H_A => [0x67]
  | .ld_L_B => [0x68]
  | .ld_L_C => [0x69]
  | .ld_L_D => [0x6A]
  | .ld_L_E => [0x6B]
  | .ld_L_H => [0x6C]
  | .ld_L_L => [0x6D]
  | .ld_L_atHL => [0x6E]
  | .ld_L_A => [0x6F]
  | .ld_atHL_B => [0x70]
  | .ld_atHL_C => [0x71]
  | .ld_atHL_D => [0x72]
  | .ld_atHL_E => [0x73]
  | .ld_atHL_H => [0x74]
  | .ld_atHL_L => [0x75]
  | .halt => [0x76]
  | .ld_atHL_A => [0x77]
  | .ld_A_B => [0x78]
  | .ld_A_C => [0x79]
  | .ld_A_D => [0x7A]
  | .ld_A_E => [0x7B]
  | .ld_A_H => [0x7C]
  | .ld_A_L => [0x7D]
  | .ld_A_atHL => [0x7E]
  | .ld_A_A => [0x7F]
  | .add_A_B => [0x80]
  | .add_A_C => [0x81]
  | .add_A_D => [0x82]
  | .add_A_E => [0x83]
  | .add_A_H => [0x84]
  | .add_A_L => [0x85]
  | .add_A_atHL => [0x86]
  | .add_A_A => [0x87]
  | .adc_A_B => [0x88]
  | .adc_A_C => [0x89]
  | .adc_A_D => [0x8A]
  | .adc_A_E => [0x8B]
  | .adc_A_H => [0x8C]
  | .adc_A_L => [0x8D]
  | .adc_A_atHL => [0x8E]
  | .adc_A_A => [0x8F]
  | .sub_A_B => [0x90]
  | .sub_A_C => [0x91]
  | .sub_A_D => [0x92]
  | .sub_A_E => [0x93]
  | .sub_A_H => [0x94]
  | .sub_A_L => [0x95]
  | .sub_A_atHL => [0x96]
  | .sub_A_A => [0x97]
  | .sbc_A_B => [0x98]
  | .sbc_A_C => [0x99]
  | .sbc_A_D => [0x9A]
  | .sbc_A_E => [0x9B]
  | .sbc_A_H => [0x9C]
  | .sbc_A_L => [0x9D]
  | .sbc_A_atHL => [0x9E]
  | .sbc_A_A => [0x9F]
  | .and_A_B => [0xA0]
  | .and_A_C => [0xA1]
  | .and_A_D => [0xA2]
  | .and_A_E => [0xA3]
  | .and_A_H => [0xA4]
  | .and_A_L => [0xA5]
  | .and_A_atHL => [0xA6]
  | .and_A_A => [0xA7]
  | .xor_A_B => [0xA8]
  | .xor_A_C => [0xA9]
  | .xor_A_D => [0xAA]
  | .xor_A_E => [0xAB]
  | .xor_A_H => [0xAC]
  | .xor_A_L => [0xAD]
  | .xor_A_atHL => [0xAE]
  | .xor_A_A => [0xAF]
  | .or_A_B => [0xB0]
  | .or_A_C => [0xB1]
  | .or_A_D => [0xB2]
  | .or_A_E => [0xB3]
  | .or_A_H => [0xB4]
  | .or_A_L => [0xB5]
  | .or_A_atHL => [0xB6]
  | .or_A_A => [0xB7]
  | .cp_A_B => [0xB8]
  | .cp_A_C => [0xB9]
  | .cp_A_D => [0xBA]
  | .cp_A_E => [0xBB]
  | .cp_A_H => [0xBC]
  | .cp_A_L => [0xBD]
  | .cp_A_atHL => [0xBE]
  | .cp_A_A => [0xBF]
  | .ret_NZ => [0xC0]
  | .pop_BC => [0xC1]
  | .jp_NZ_nn nn => [0xC2, loByte nn, hiByte nn]
  | .jp_nn nn => [0xC3, loByte nn, hiByte nn]
  | .call_NZ_nn nn => [0xC4, loByte nn, hiByte nn]
  | .push_BC => [0xC5]
  | .add_A_n n => [0xC6, n]
  | .rst_00H => [0xC7]
  | .ret_Z => [0xC8]
  | .ret => [0xC9]
  | .jp_Z_nn nn => [0xCA, loByte nn, hiByte nn]
  | .call_Z_nn nn => [0xCC, loByte nn, hiByte nn]
  | .call_nn nn => [0xCD, loByte nn, hiByte nn]
  | .adc_A_n n => [0xCE, n]
  | .rst_08H => [0xCF]
  | .ret_NC => [0xD0]
  | .pop_DE => [0xD1]
  | .jp_NC_nn nn => [0xD2, loByte nn, hiByte nn]
  | .illegal_D3 => [0xD3]
  | .call_NC_nn nn => [0xD4, loByte nn, hiByte nn]
  | .push_DE => [0xD5]
  | .sub_A_n n => [0xD6, n]
  | .rst_10H => [0xD7]
  | .ret_C => [0xD8]
  | .reti => [0xD9]
  | .jp_C_nn nn => [0xDA, loByte nn, hiByte nn]
  | .illegal_DB => [0xDB]
  | .call_C_nn nn => [0xDC, loByte nn, hiByte nn]
  | .illegal_DD => [0xDD]
  | .sbc_A_n n => [0xDE, n]
  | .rst_18H => [0xDF]
  | .ldh_atN_A n => [0xE0, n]
  | .pop_HL => [0xE1]
  | .ld_atC_A => [0xE2]
  | .illegal_E3 => [0xE3]
  | .illegal_E4 => [0xE4]
  | .push_HL => [0xE5]
  | .and_A_n n => [0xE6, n]
  | .rst_20H => [0xE7]
  | .add_SP_e e => [0xE8, dispByte e]
  | .jp_HL => [0xE9]
  | .ld_atNn_A nn => [0xEA, loByte nn, hiByte nn]
  | .illegal_EB => [0xEB]
  | .illegal_EC => [0xEC]
  | .illegal_ED => [0xED]
  | .xor_A_n n => [0xEE, n]
  | .rst_28H => [0xEF]
  | .ldh_A_atN n => [0xF0, n]
  | .pop_AF => [0xF1]
  | .ld_A_atC => [0xF2]
  | .di => [0xF3]
  | .illegal_F4 => [0xF4]
  | .push_AF => [0xF5]
  | .or_A_n n => [0xF6, n]
  | .rst_30H => [0xF7]
  | .ld_HL_SPplusE e => [0xF8, dispByte e]
  | .ld_SP_HL => [0xF9]
  | .ld_A_atNn nn => [0xFA, loByte nn, hiByte nn]
  | .ei => [0xFB]
  | .illegal_FC => [0xFC]
  | .illegal_FD => [0xFD]
  | .cp_A_n n => [0xFE, n]
  | .rst_38H => [0xFF]
  | .rlc_B => [0xCB, 0x00]
  | .rlc_C => [0xCB, 0x01]
  | .rlc_D => [0xCB, 0x02]
  | .rlc_E => [0xCB, 0x03]
  | .rlc_H => [0xCB, 0x04]
  | .rlc_L => [0xCB, 0x05]
  | .rlc_atHL => [0xCB, 0x06]
  | .rlc_A => [0xCB, 0x07]
  | .rrc_B => [0xCB, 0x08]
  | .rrc_C => [0xCB, 0x09]
  | .rrc_D => [0xCB, 0x0A]
  | .rrc_E => [0xCB, 0x0B]
  | .rrc_H => [0xCB, 0x0C]
  | .rrc_L => [0xCB, 0x0D]
  | .rrc_atHL => [0xCB, 0x0E]
  | .rrc_A => [0xCB, 0x0F]
  | .rl_B => [0xCB, 0x10]
  | .rl_C => [0xCB, 0x11]
  | .rl_D => [0xCB, 0x12]
  | .rl_E => [0xCB, 0x13]
  | .rl_H => [0xCB, 0x14]
  | .rl_L => [0xCB, 0x15]
  | .rl_atHL => [0xCB, 0x16]
  | .rl_A => [0xCB, 0x17]
  | .rr_B => [0xCB, 0x18]
  | .rr_C => [0xCB, 0x19]
  | .rr_D => [0xCB, 0x1A]
  | .rr_E => [0xCB, 0x1B]
  | .rr_H => [0xCB, 0x1C]
  | .rr_L => [0xCB, 0x1D]
  | .rr_atHL => [0xCB, 0x1E]
  | .rr_A => [0xCB, 0x1F]
  | .sla_B => [0xCB, 0x20]
  | .sla_C => [0xCB, 0x21]
  | .sla_D => [0xCB, 0x22]
  | .sla_E => [0xCB, 0x23]
  | .sla_H => [0xCB, 0x24]
  | .sla_L => [0xCB, 0x25]
  | .sla_atHL => [0xCB, 0x26]
  | .sla_A => [0xCB, 0x27]
  | .sra_B => [0xCB, 0x28]
  | .sra_C => [0xCB, 0x29]
  | .sra_D => [0xCB, 0x2A]
  | .sra_E => [0xCB, 0x2B]
  | .sra_H => [0xCB, 0x2C]
  | .sra_L => [0xCB, 0x2D]
  | .sra_atHL => [0xCB, 0x2E]
  | .sra_A => [0xCB, 0x2F]
  | .swap_B => [0xCB, 0x30]
  | .swap_C => [0xCB, 0x31]
  | .swap_D => [0xCB, 0x32]
  | .swap_E => [0xCB, 0x33]
  | .swap_H => [0xCB, 0x34]
  | .swap_L => [0xCB, 0x35]
  | .swap_atHL => [0xCB, 0x36]
  | .swap_A => [0xCB, 0x37]
  | .srl_B => [0xCB, 0x38]
  | .srl_C => [0xCB, 0x39]
  | .srl_D => [0xCB, 0x3A]
  | .srl_E => [0xCB, 0x3B]
  | .srl_H => [0xCB, 0x3C]
  | .srl_L => [0xCB, 0x3D]
  | .srl_atHL => [0xCB, 0x3E]
  | .srl_A => [0xCB, 0x3F]
  | .bit_0_B => [0xCB, 0x40]
  | .bit_0_C => [0xCB, 0x41]
  | .bit_0_D => [0xCB, 0x42]
  | .bit_0_E => [0xCB, 0x43]
  | .bit_0_H => [0xCB, 0x44]
  | .bit_0_L => [0xCB, 0x45]
  | .bit_0_atHL => [0xCB, 0x46]
  | .bit_0_A => [0xCB, 0x47]
  | .bit_1_B => [0xCB, 0x48]
  | .bit_1_C => [0xCB, 0x49]
  | .bit_1_D => [0xCB, 0x4A]
  | .bit_1_E => [0xCB, 0x4B]
  | .bit_1_H => [0xCB, 0x4C]
  | .bit_1_L => [0xCB, 0x4D]
  | .bit_1_atHL => [0xCB, 0x4E]
  | .bit_1_A => [0xCB, 0x4F]
  | .bit_2_B => [0xCB, 0x50]
  | .bit_2_C => [0xCB, 0x51]
  | .bit_2_D => [0xCB, 0x52]
  | .bit_2_E => [0xCB, 0x53]
  | .bit_2_H => [0xCB, 0x54]
  | .bit_2_L => [0xCB, 0x55]
  | .bit_2_atHL => [0xCB, 0x56]
  | .bit_2_A => [0xCB, 0x57]
  | .bit_3_B => [0xCB, 0x58]
  | .bit_3_C => [0xCB, 0x59]
  | .bit_3_D => [0xCB, 0x5A]
  | .bit_3_E => [0xCB, 0x5B]
  | .bit_3_H => [0xCB, 0x5C]
  | .bit_3_L => [0xCB, 0x5D]
  | .bit_3_atHL => [0xCB, 0x5E]
  | .bit_3_A => [0xCB, 0x5F]
  | .bit_4_B => [0xCB, 0x60]
  | .bit_4_C => [0xCB, 0x61]
  | .bit_4_D => [0xCB, 0x62]
  | .bit_4_E => [0xCB, 0x63]
  | .bit_4_H => [0xCB, 0x64]
  | .bit_4_L => [0xCB, 0x65]
  | .bit_4_atHL => [0xCB, 0x66]
  | .bit_4_A => [0xCB, 0x67]
  | .bit_5_B => [0xCB, 0x68]
  | .bit_5_C => [0xCB, 0x69]
  | .bit_5_D => [0xCB, 0x6A]
  | .bit_5_E => [0xCB, 0x6B]
  | .bit_5_H => [0xCB, 0x6C]
  | .bit_5_L => [0xCB, 0x6D]
  | .bit_5_atHL => [0xCB, 0x6E]
  | .bit_5_A => [0xCB, 0x6F]
  | .bit_6_B => [0xCB, 0x70]
  | .bit_6_C => [0xCB, 0x71]
  | .bit_6_D => [0xCB, 0x72]
  | .bit_6_E => [0xCB, 0x73]
  | .bit_6_H => [0xCB, 0x74]
  | .bit_6_L => [0xCB, 0x75]
  | .bit_6_atHL => [0xCB, 0x76]
  | .bit_6_A => [0xCB, 0x77]
  | .bit_7_B => [0xCB, 0x78]
  | .bit_7_C => [0xCB, 0x79]
  | .bit_7_D => [0xCB, 0x7A]
  | .bit_7_E => [0xCB, 0x7B]
  | .bit_7_H => [0xCB, 0x7C]
  | .bit_7_L => [0xCB, 0x7D]
  | .bit_7_atHL => [0xCB, 0x7E]
  | .bit_7_A => [0xCB, 0x7F]
  | .res_0_B => [0xCB, 0x80]
  | .res_0_C => [0xCB, 0x81]
  | .res_0_D => [0xCB, 0x82]
  | .res_0_E => [0xCB, 0x83]
  | .res_0_H => [0xCB, 0x84]
  | .res_0_L => [0xCB, 0x85]
  | .res_0_atHL => [0xCB, 0x86]
  | .res_0_A => [0xCB, 0x87]
  | .res_1_B => [0xCB, 0x88]
  | .res_1_C => [0xCB, 0x89]
  | .res_1_D => [0xCB, 0x8A]
  | .res_1_E => [0xCB, 0x8B]
  | .res_1_H => [0xCB, 0x8C]
  | .res_1_L => [0xCB, 0x8D]
  | .res_1_atHL => [0xCB, 0x8E]
  | .res_1_A => [0xCB, 0x8F]
  | .res_2_B => [0xCB, 0x90]
  | .res_2_C => [0xCB, 0x91]
  | .res_2_D => [0xCB, 0x92]
  | .res_2_E => [0xCB, 0x93]
  | .res_2_H => [0xCB, 0x94]
  | .res_2_L => [0xCB, 0x95]
  | .res_2_atHL => [0xCB, 0x96]
  | .res_2_A => [0xCB, 0x97]
  | .res_3_B => [0xCB, 0x98]
  | .res_3_C => [0xCB, 0x99]
  | .res_3_D => [0xCB, 0x9A]
  | .res_3_E => [0xCB, 0x9B]
  | .res_3_H => [0xCB, 0x9C]
  | .res_3_L => [0xCB, 0x9D]
  | .res_3_atHL => [0xCB, 0x9E]
  | .res_3_A => [0xCB, 0x9F]
  | .res_4_B => [0xCB, 0xA0]
  | .res_4_C => [0xCB, 0xA1]
  | .res_4_D => [0xCB, 0xA2]
  | .res_4_E => [0xCB, 0xA3]
  | .res_4_H => [0xCB, 0xA4]
  | .res_4_L => [0xCB, 0xA5]
  | .res_4_atHL => [0xCB, 0xA6]
  | .res_4_A => [0xCB, 0xA7]
  | .res_5_B => [0xCB, 0xA8]
  | .res_5_C => [0xCB, 0xA9]
  | .res_5_D => [0xCB, 0xAA]
  | .res_5_E => [0xCB, 0xAB]
  | .res_5_H => [0xCB, 0xAC]
  | .res_5_L => [0xCB, 0xAD]
  | .res_5_atHL => [0xCB, 0xAE]
  | .res_5_A => [0xCB, 0xAF]
  | .res_6_B => [0xCB, 0xB0]
  | .res_6_C => [0xCB, 0xB1]
  | .res_6_D => [0xCB, 0xB2]
  | .res_6_E => [0xCB, 0xB3]
  | .res_6_H => [0xCB, 0xB4]
  | .res_6_L => [0xCB, 0xB5]
  | .res_6_atHL => [0xCB, 0xB6]
  | .res_6_A => [0xCB, 0xB7]
  | .res_7_B => [0xCB, 0xB8]
  | .res_7_C => [0xCB, 0xB9]
  | .res_7_D => [0xCB, 0xBA]
  | .res_7_E => [0xCB, 0xBB]
  | .res_7_H => [0xCB, 0xBC]
  | .res_7_L => [0xCB, 0xBD]
  | .res_7_atHL => [0xCB, 0xBE]
  | .res_7_A => [0xCB, 0xBF]
  | .set_0_B => [0xCB, 0xC0]
  | .set_0_C => [0xCB, 0xC1]
  | .set_0_D => [0xCB, 0xC2]
  | .set_0_E => [0xCB, 0xC3]
  | .set_0_H => [0xCB, 0xC4]
  | .set_0_L => [0xCB, 0xC5]
  | .set_0_atHL => [0xCB, 0xC6]
  | .set_0_A => [0xCB, 0xC7]
  | .set_1_B => [0xCB, 0xC8]
  | .set_1_C => [0xCB, 0xC9]
  | .set_1_D => [0xCB, 0xCA]
  | .set_1_E => [0xCB, 0xCB]
  | .set_1_H => [0xCB, 0xCC]
  | .set_1_L => [0xCB, 0xCD]
  | .set_1_atHL => [0xCB, 0xCE]
  | .set_1_A => [0xCB, 0xCF]
  | .set_2_B => [0xCB, 0xD0]
  | .set_2_C => [0xCB, 0xD1]
  | .set_2_D => [0xCB, 0xD2]
  | .set_2_E => [0xCB, 0xD3]
  | .set_2_H => [0xCB, 0xD4]
  | .set_2_L => [0xCB, 0xD5]
  | .set_2_atHL => [0xCB, 0xD6]
  | .set_2_A => [0xCB, 0xD7]
  | .set_3_B => [0xCB, 0xD8]
  | .set_3_C => [0xCB, 0xD9]
  | .set_3_D => [0xCB, 0xDA]
  | .set_3_E => [0xCB, 0xDB]
  | .set_3_H => [0xCB, 0xDC]
  | .set_3_L => [0xCB, 0xDD]
  | .set_3_atHL => [0xCB, 0xDE]
  | .set_3_A => [0xCB, 0xDF]
  | .set_4_B => [0xCB, 0xE0]
  | .set_4_C => [0xCB, 0xE1]
  | .set_4_D => [0xCB, 0xE2]
  | .set_4_E => [0xCB, 0xE3]
  | .set_4_H => [0xCB, 0xE4]
  | .set_4_L => [0xCB, 0xE5]
  | .set_4_atHL => [0xCB, 0xE6]
  | .set_4_A => [0xCB, 0xE7]
  | .set_5_B => [0xCB, 0xE8]
  | .set_5_C => [0xCB, 0xE9]
  | .set_5_D => [0xCB, 0xEA]
  | .set_5_E => [0xCB, 0xEB]
  | .set_5_H => [0xCB, 0xEC]
  | .set_5_L => [0xCB, 0xED]
  | .set_5_atHL => [0xCB, 0xEE]
  | .set_5_A => [0xCB, 0xEF]
  | .set_6_B => [0xCB, 0xF0]
  | .set_6_C => [0xCB, 0xF1]
  | .set_6_D => [0xCB, 0xF2]
  | .set_6_E => [0xCB, 0xF3]
  | .set_6_H => [0xCB, 0xF4]
  | .set_6_L => [0xCB, 0xF5]
  | .set_6_atHL => [0xCB, 0xF6]
  | .set_6_A => [0xCB, 0xF7]
  | .set_7_B => [0xCB, 0xF8]
  | .set_7_C => [0xCB, 0xF9]
  | .set_7_D => [0xCB, 0xFA]
  | .set_7_E => [0xCB, 0xFB]
  | .set_7_H => [0xCB, 0xFC]
  | .set_7_L => [0xCB, 0xFD]
  | .set_7_atHL => [0xCB, 0xFE]
  | .set_7_A => [0xCB, 0xFF]

/-- The length of an instruction in bytes: the L of 30_encoding R161. -/
def Instr.length (i : Instr) : Nat := (encode i).length

/-- The bytes of a word numbered little-end first: bit 0 is the least significant bit of the first byte. -/
def bytesOf : Nat → Nat → List Byte
  | 0, _ => []
  | k + 1, w => BitVec.ofNat 8 w :: bytesOf k (w / 256)

/-- The bytes of a table word as the hardware stores them, zeros after them up to the longest instruction (3 bytes). The table
numbers a CB row with the byte 0xCB in bits 15-8 (its match is 0xCBxx), so that byte comes first; every other row's first byte
is bits 7-0 (log entry 7). -/
def tableBytes (nbits w : Nat) : List Byte :=
  if nbits = 16 ∧ w / 256 % 256 = 0xCB then [0xCB, BitVec.ofNat 8 w, 0]
  else (bytesOf (nbits / 8) w ++ [0, 0, 0]).take (max 3 (nbits / 8))

/-- The instruction the decoder reads from a table word of `nbits` bits. -/
def decodeTableWord (nbits w : Nat) : Option Instr :=
  match decode (tableBytes nbits w) with
  | .ok (i, _) => some i
  | .error _ => none

end Sys2Proof
end

