-- ==== Sys2Proof/Machine/PpuUnit.lean ====
section
/-! DEFINITION. The PPU: the OAM search, the rendering of a line, the ends of the four modes and the advance
(60_exceptions R450 to R462). It reads VRAM and OAM directly, never through the bus. -/

namespace Sys2Proof.Machine

/-- `vram[k]`, read directly (60_exceptions R450). -/
def State.vramByte (s : State) (k : Nat) : Byte := s.mem.read (0x8000 + k)

/-- `oam[k]`, read directly (60_exceptions R450). -/
def State.oamByte (s : State) (k : Nat) : Byte := s.mem.read (0xFE00 + k)

/-- `budget(mode)` in T-cycles (60_exceptions R450). -/
def PpuMode.budget : PpuMode → Nat
  | .oamSearch => 80
  | .dataTransfer => 172
  | .hblank => 204
  | .vblank => 456

/-- The sprite height that LCDC bit 2 selects (10_state R44, 60_exceptions R451). -/
def Ppu.spriteHeight (p : Ppu) : Nat := if bitOf p.lcdc 2 then 16 else 8

/-- OAM entry i (10_state R50). -/
def State.oamEntry (s : State) (i : Nat) : Sprite :=
  { x := s.oamByte (4 * i + 1), index := i, y := s.oamByte (4 * i), tile := s.oamByte (4 * i + 2), attr := s.oamByte (4 * i + 3) }

/-- Whether an entry is visible on line LY: `sy - 16 <= LY < sy - 16 + h`, X not 0 and below 168 (60_exceptions R451). -/
def Ppu.spriteVisible (p : Ppu) (e : Sprite) : Bool :=
  decide (e.y.toNat ≤ p.ly.toNat + 16) && decide (p.ly.toNat + 16 < e.y.toNat + p.spriteHeight) &&
    decide (e.x ≠ 0) && decide (e.x.toNat < 168)

/-- The first 10 visible entries in OAM order (60_exceptions R451). -/
def State.visibleSprites (s : State) : List Sprite :=
  (((List.range 40).map s.oamEntry).filter s.ppu.spriteVisible).take 10

/-- Whether a sprite comes before another: by X, then by OAM index (60_exceptions R451). -/
def Sprite.before (a b : Sprite) : Bool :=
  decide (a.x.toNat < b.x.toNat) || (decide (a.x = b.x) && decide (a.index < b.index))

/-- Insert a sprite into a list sorted by priority. -/
def insertSprite (a : Sprite) : List Sprite → List Sprite
  | [] => [a]
  | b :: rest => if a.before b then a :: b :: rest else b :: insertSprite a rest

/-- Sort sprites by X, ties by OAM index (60_exceptions R451). -/
def sortSprites : List Sprite → List Sprite
  | [] => []
  | a :: rest => insertSprite a (sortSprites rest)

/-- `OamSearch()`: the line's sprites, in priority order (60_exceptions R451). -/
def State.oamSearch (s : State) : List Sprite := sortSprites s.visibleSprites

/-- The offset into VRAM of a tile's data: from 8000 with an unsigned index, or around 9000 with a signed one (60_exceptions R452). -/
def tileBase (t : Byte) (unsigned : Bool) : Nat :=
  if unsigned then 16 * t.toNat else (0x1000 + 16 * t.toInt).toNat

/-- `TilePixel(t, row, col, unsigned)` for row and col in 0..7: two bit planes, low plane first, bit 7 leftmost (60_exceptions R452). -/
def State.tilePixel (s : State) (t : Byte) (row col : Nat) (unsigned : Bool) : Shade :=
  let lo := s.vramByte (tileBase t unsigned + 2 * row)
  let hi := s.vramByte (tileBase t unsigned + 2 * row + 1)
  BitVec.ofBool (bitOf hi (7 - col)) ++ BitVec.ofBool (bitOf lo (7 - col))

/-- The tile map's offset into VRAM for a map-select bit (60_exceptions R452, R453). -/
def mapBase (high : Bool) : Nat := if high then 0x1C00 else 0x1800

/-- `BgIndex(x)` (60_exceptions R452). -/
def State.bgIndex (s : State) (x : Nat) : Shade :=
  let bx := (s.ppu.scx.toNat + x) % 256
  let by' := (s.ppu.scy.toNat + s.ppu.ly.toNat) % 256
  let t := s.vramByte (mapBase (bitOf s.ppu.lcdc 3) + 32 * (by' / 8) + bx / 8)
  s.tilePixel t (by' % 8) (bx % 8) (bitOf s.ppu.lcdc 4)

/-- Whether the window replaces the background at pixel x (60_exceptions R453). -/
def Ppu.windowCovers (p : Ppu) (x : Nat) : Bool :=
  bitOf p.lcdc 0 && bitOf p.lcdc 5 && decide (p.wy.toNat ≤ p.ly.toNat) && decide (p.wx.toNat ≤ x + 7)

/-- `WinIndex(x)` (60_exceptions R453); its effect on win_drawn is `Ppu.windowOnLine`. -/
def State.winIndex (s : State) (x : Nat) : Shade :=
  let wx := x + 7 - s.ppu.wx.toNat
  let wy := s.ppu.wline
  let t := s.vramByte (mapBase (bitOf s.ppu.lcdc 6) + 32 * (wy / 8) + wx / 8)
  s.tilePixel t (wy % 8) (wx % 8) (bitOf s.ppu.lcdc 4)

/-- The colour index `idx` under the sprites: 0 with LCDC bit 0 clear, else the window's or the background's (60_exceptions R452 to R454). -/
def State.layerIndex (s : State) (x : Nat) : Shade :=
  if bitOf s.ppu.lcdc 0 then (if s.ppu.windowCovers x then s.winIndex x else s.bgIndex x) else 0

/-- `(pal >> (2*idx)) & 3` (10_state R48). -/
def paletteShade (pal : Byte) (idx : Shade) : Shade := (pal >>> (2 * idx.toNat)).setWidth 2

/-- The shade under the sprites: shade 0 with LCDC bit 0 clear, else the index through BGP (60_exceptions R454). -/
def State.layerShade (s : State) (x : Nat) : Shade :=
  if bitOf s.ppu.lcdc 0 then paletteShade s.ppu.bgp (s.layerIndex x) else 0

/-- Whether a sprite's span holds pixel x: `sx - 8 <= x < sx` (60_exceptions R454). -/
def Sprite.covers (e : Sprite) (x : Nat) : Bool := decide (e.x.toNat ≤ x + 8) && decide (x < e.x.toNat)

/-- The sprite's column at pixel x, flipped by attribute bit 5 (60_exceptions R454). -/
def Sprite.column (e : Sprite) (x : Nat) : Nat :=
  let col := x + 8 - e.x.toNat
  if bitOf e.attr 5 then 7 - col else col

/-- The sprite's row on line LY for a height h, flipped by attribute bit 6 (60_exceptions R454). An integer: with a height that
changed since the OAM search it can be negative. -/
def Sprite.row (e : Sprite) (ly : Byte) (h : Nat) : Int :=
  let row : Int := (ly.toNat : Int) - ((e.y.toNat : Int) - 16)
  if bitOf e.attr 6 then (h : Int) - 1 - row else row

/-- The colour index of a sprite at pixel x (60_exceptions R454). A row outside 0..7 of a tile, which no rule states, gives a free
value (log entry 11). -/
def State.spriteIndex (s : State) (e : Sprite) (x : Nat) : Shade :=
  let h := s.ppu.spriteHeight
  let row := e.row s.ppu.ly h
  let col := e.column x
  if 0 ≤ row ∧ row < h then
    if h = 16 then s.tilePixel ((e.tile &&& 0xFE) ||| BitVec.ofNat 8 (row.toNat / 8)) (row.toNat % 8) col true
    else s.tilePixel e.tile row.toNat col true
  else Config.spriteRowOutside s.ppu.freeDraws s.ppu.ly x e.index

/-- The shade the sprites leave at pixel x over the layer's shade: the first sprite of the list with an opaque pixel decides
(60_exceptions R454). -/
def State.spriteShade (s : State) (x : Nat) : List Sprite → Shade
  | [] => s.layerShade x
  | e :: rest =>
    if !e.covers x then s.spriteShade x rest
    else if s.spriteIndex e x = 0 then s.spriteShade x rest
    else if bitOf e.attr 7 && decide (s.layerIndex x ≠ 0) then s.layerShade x
    else paletteShade (if bitOf e.attr 4 then s.ppu.obp1 else s.ppu.obp0) (s.spriteIndex e x)

/-- `PixelShade(x)` (60_exceptions R454). -/
def State.pixelShade (s : State) (x : Nat) : Shade :=
  if bitOf s.ppu.lcdc 1 then s.spriteShade x s.ppu.sprites else s.layerShade x

/-- Line LY's 160 pixels (60_exceptions R452). -/
def State.renderedLine (s : State) : List Shade := (List.range 160).map s.pixelShade

/-- Whether the window produces a pixel on line LY (60_exceptions R453, 10_state R49). -/
def Ppu.windowOnLine (p : Ppu) : Bool := (List.range 160).any p.windowCovers

/-- `if STAT[b] == 1 then request(LCD_STATUS)`, for the enable at bit k of stat_w (60_exceptions R457): k = 0 HBLANK, 1 VBLANK,
2 OAM_SEARCH, 3 LY = LYC. -/
def State.requestStat (s : State) (k : Nat) : State :=
  if s.ppu.statEnables.getLsbD k then s.request .lcdStatus else s

/-- `LycCheck()` (60_exceptions R458). -/
def State.lycCheck (s : State) : State := if s.ppu.ly = s.ppu.lyc then s.requestStat 3 else s

/-- The PPU enters a mode. -/
def State.setMode (s : State) (m : PpuMode) : State := s.mapPpu fun p => { p with mode := m }

/-- `ModeEnd(OAM_SEARCH)` (60_exceptions R451). -/
def State.endOamSearch (s : State) : State :=
  s.mapPpu fun p => { p with sprites := s.oamSearch, mode := .dataTransfer }

/-- `ModeEnd(DATA_TRANSFER)`: the line is rendered in place, then HBLANK is entered (60_exceptions R452 to R454, R457, R460).
The counter of the free values moves on (log entry 11). -/
def State.endDataTransfer (s : State) : State :=
  (s.mapPpu fun p =>
    { p with fb := p.fb.set p.ly.toNat s.renderedLine, winDrawn := p.winDrawn || p.windowOnLine, mode := .hblank,
             freeDraws := p.freeDraws + 1 }).requestStat 0

/-- The counters at the end of HBLANK: LY, and the window line if the window was drawn (60_exceptions R455, R462). -/
def Ppu.nextLine (p : Ppu) : Ppu :=
  { p with ly := p.ly + 1, wline := if p.winDrawn then p.wline + 1 else p.wline, winDrawn := false }

/-- `ModeEnd(HBLANK)` (60_exceptions R455). -/
def State.endHblank (s : State) : State :=
  let s1 := (s.mapPpu Ppu.nextLine).lycCheck
  if s1.ppu.ly = 144 then
    (((s1.setMode .vblank).request .vblank).mapPpu fun p => { p with frameReady := true }).requestStat 1
  else (s1.setMode .oamSearch).requestStat 2

/-- `ModeEnd(VBLANK)`: one VBLANK line ends (60_exceptions R456). -/
def State.endVblankLine (s : State) : State :=
  let s1 := s.mapPpu fun p => { p with ly := p.ly + 1 }
  if 153 < s1.ppu.ly.toNat then
    ((s1.mapPpu fun p => { p with ly := 0, wline := 0, mode := .oamSearch }).requestStat 2).lycCheck
  else s1.lycCheck

/-- `ModeEnd(mode)` (60_exceptions R450). -/
def State.modeEnd (s : State) : State :=
  match s.ppu.mode with
  | .oamSearch => s.endOamSearch
  | .dataTransfer => s.endDataTransfer
  | .hblank => s.endHblank
  | .vblank => s.endVblankLine

/-- The loop of `PpuAdvance`: while dots reach the mode's budget, the mode ends (60_exceptions R450). A pass takes at least 80 dots, so
fuel of at least dots/80 ends the loop itself. -/
def State.ppuLoop : Nat → State → State
  | 0, s => s
  | k + 1, s =>
    if s.ppu.mode.budget ≤ s.ppu.dots then
      State.ppuLoop k (s.mapPpu fun p => { p with dots := p.dots - p.mode.budget }).modeEnd
    else s

/-- `PpuAdvance(c)` (60_exceptions R450): nothing while the LCD is off (R461). -/
def State.ppuAdvance (s : State) (c : Nat) : State :=
  if s.ppu.lcdOn then
    State.ppuLoop (s.ppu.dots + c) (s.mapPpu fun p => { p with dots := p.dots + c })
  else s

end Sys2Proof.Machine
end

