-- ==== Sys2Proof/Machine/TimerUnit.lean ====
section
/-! DEFINITION. The timer's advance: the free-running divider, the prescaler, TIMA and its deferred reload (60_exceptions R440 to R446). -/

namespace Sys2Proof.Machine

/-- `period(TAC[1:0])`: T-cycles per TIMA tick (60_exceptions R440). -/
def Timer.period (t : Timer) : Nat :=
  match t.tac.getLsbD 1, t.tac.getLsbD 0 with
  | false, false => 1024
  | false, true => 16
  | true, false => 64
  | true, true => 256

/-- TAC bit 2: TIMA counts (10_state R42). -/
def Timer.enabled (t : Timer) : Bool := t.tac.getLsbD 2

/-- A part of a T-cycle on the timer, and whether it requests TIMER. -/
structure TimerOut where
  timer : Timer
  request : Bool
deriving DecidableEq, Repr

/-- The deferred reload of a T-cycle: when the countdown reaches 0, TIMA takes TMA and TIMER is requested (60_exceptions R440, R443). -/
def Timer.reloadStep (t : Timer) : TimerOut :=
  if t.reloadCd = 0 then { timer := t, request := false }
  else if t.reloadCd = 1 then { timer := { t with reloadCd := 0, tima := t.tma }, request := true }
  else { timer := { t with reloadCd := t.reloadCd - 1 }, request := false }

/-- `TimaIncrement()` with `TIMER_RELOAD_DELAY` = `delay` (60_exceptions R442). -/
def Timer.timaIncrement (delay : Nat) (t : Timer) : TimerOut :=
  if t.tima = 0xFF then
    if delay = 0 then { timer := { t with tima := t.tma }, request := true }
    else { timer := { t with tima := 0x00, reloadCd := delay }, request := false }
  else { timer := { t with tima := t.tima + 1 }, request := false }

/-- The prescaler's part of a T-cycle: it counts while TAC enables it, and ticks TIMA each period (60_exceptions R440). -/
def Timer.prescaleStep (delay : Nat) (t : Timer) : TimerOut :=
  if t.enabled then
    if t.tacc + 1 < t.period then { timer := { t with tacc := t.tacc + 1 }, request := false }
    else Timer.timaIncrement delay { t with tacc := t.tacc + 1 - t.period }
  else { timer := t, request := false }

/-- `TimerTick()`: the divider, then the deferred reload, then the prescaler (60_exceptions R440). -/
def Timer.tick (delay : Nat) (t : Timer) : TimerOut :=
  let r := Timer.reloadStep { t with div16 := t.div16 + 1 }
  let p := Timer.prescaleStep delay r.timer
  { timer := p.timer, request := r.request || p.request }

/-- `TimerAdvance(c)` on the timer alone: c T-cycles in order, and whether one of them requested TIMER. -/
def Timer.advance (delay : Nat) : Nat → Timer → TimerOut
  | 0, t => { timer := t, request := false }
  | c + 1, t =>
    let o := Timer.tick delay t
    let rest := Timer.advance delay c o.timer
    { timer := rest.timer, request := o.request || rest.request }

/-- `TimerAdvance(c)` (60_exceptions R440). Requests only OR into IF, so one request stands for several (R410). -/
def State.timerAdvance (s : State) (c : Nat) : State :=
  let o := Timer.advance s.params.timerReloadDelay c s.timer
  let s1 : State := { s with timer := o.timer }
  if o.request then s1.request .timer else s1

end Sys2Proof.Machine
end

