-- ==== Sys2Proof/Machine/Engine.lean ====
section
/-! DEFINITION. The parts of a core step around the instruction: the halt wake-up, the service check, fetch and decode, the EI promotion,
the advance of the devices, and the terminal fault state (60_exceptions R400 to R405). -/

namespace Sys2Proof.Machine

/-- How an engine step goes on after its wake-up and service check (60_exceptions R401). -/
inductive EngineBegin where
  /-- The service would push onto IE: the run ends (60_exceptions R402). -/
  | fault (r : Fault)
  /-- The engine is halted: the step is a wait. -/
  | wait (s : State)
  /-- The next instruction is fetched from this state's pc. -/
  | fetch (s : State)
deriving DecidableEq, Repr

/-- The start of an engine step: the step's cost is 0, and a pending enabled request ends the halt (60_exceptions R401, R404). -/
def State.wake (s : State) : State :=
  { s with cycles := 0, halted := s.halted && decide (s.pending = 0) }

/-- Whether a push from this SP would write IE at FFFF (60_exceptions R402). -/
def State.pushHitsIE (s : State) : Bool := decide (s.regs.sp = 0x0000) || decide (s.regs.sp = 0x0001)

/-- The wake-up, then at most one service, of the highest-priority pending enabled source (60_exceptions R401, R402, R408). -/
def State.beginStep (s : State) : EngineBegin :=
  let w := s.wake
  match (if w.ime then lowestSource w.pending else none) with
  | some k => if w.pushHitsIE then .fault (.servicePushIE w.regs.pc) else .fetch (w.takeInterrupt k)
  | none => if w.halted then .wait (w.addCycles 4) else .fetch w

/-- Fetch and decode at pc: the opcode byte and the two bytes after it, each through the bus (30_encoding R160, R161). -/
def State.fetchInstr (s : State) : Instr :=
  decodeBytes (s.busRead s.regs.pc) (s.busRead (s.regs.pc + 1)) (s.busRead (s.regs.pc + 2))

/-- The EI promotion at the end of an engine step that executed an instruction; `armed` is ei_pending before the fetch
(60_exceptions R403). -/
def State.promoteEi (s : State) (armed : Bool) : State :=
  if armed && s.eiPending then { s with ime := true, eiPending := false } else s

/-- The rest of a core step: the timer, then the PPU, then total_cycles take the engine step's cost (60_exceptions R400). -/
def State.advanceDevices (s : State) : State :=
  let c := s.cycles
  let s1 := (s.timerAdvance c).ppuAdvance c
  { s1 with totalCycles := s1.totalCycles + c }

/-- The terminal faulted state a fault leaves (60_exceptions R405): after the wake-up and any service of the step, with pc at the
byte for IllegalOpcode and Stop, pc past the HALT for HaltBug, and only halted cleared for ServicePushIE. No cycles are added. -/
def State.faulted (s : State) (r : Fault) : State :=
  let s0 : State :=
    match r, s.beginStep with
    | .servicePushIE _, _ => s.wake
    | .haltBug a0, .fetch t => t.setPc (a0 + 1)
    | _, .fetch t => t
    | _, _ => s
  { s0 with fault := some r, cycles := 0 }

/-- The cartridge that stands for a load where none was made: 32 KiB of 0x00, ROM-only (log entry 3). -/
def Cart.blank : Cart := { banking := .romOnly, imageLen := 0x8000, image := [], ramSize := 0, ram := [] }

/-- Put a byte into the storage that a fetch at bus address `a` reads, with the banks selected as in `c`. A device register and the
unusable range hold no such storage. -/
def State.place (s : State) (c : Option Cart) (a : Word) (v : Byte) : State :=
  match regionOf a with
  | .rom =>
    match c with
    | some c => s.mapCart fun k => { k with image := k.image.write (c.romOffset a.toNat) v }
    | none => s
  | .saveRam => s.mapCart fun k => k.writeRam a.toNat v
  | .vram | .wram | .oam | .hram => s.poke a.toNat v
  | .echo => s.poke (a.toNat - 0x2000) v
  | .io => if ioRegOf a = .file then s.poke a.toNat v else s
  | .ie => { s with ie := v }
  | .unusable => s

/-- Put bytes one after the other from `a` on. -/
def State.placeAll (s : State) (c : Option Cart) (a : Word) : List Byte → State
  | [] => s
  | v :: rest => (s.place c a v).placeAll c (a + 1) rest

/-- A state that fetches and runs: no fault, not halted, and a cartridge in the slot. -/
def State.runnable (s : State) : State :=
  { s with fault := none, halted := false, cart := some (s.cart.getD Cart.blank) }

/-- The state, with the bytes placed where the next step's fetch reads them: at pc or, where the step first services an interrupt,
at its vector. -/
def State.placeInstr (s : State) (bs : List Byte) : State :=
  match s.runnable.beginStep with
  | .fetch t => s.runnable.placeAll t.cart t.regs.pc bs
  | _ => s.runnable

end Sys2Proof.Machine
end

