-- ==== Sys2Proof/Machine/Step.lean ====
section
/-! DEFINITION. One core step (60_exceptions R400), and the state whose next step runs a given instruction. -/

namespace Sys2Proof.Machine

/-- One core step: an engine step, then the timer and the PPU by its cycles (60_exceptions R400, R401). After a fault no step exists
(R405); with no image loaded the step is refused (R485). -/
def step (s : State) : Host.Outcome State Fault Refusal :=
  match s.cart, s.fault with
  | none, _ => .refused .noImageLoaded
  | some _, some r => .fault r
  | some _, none =>
    match s.beginStep with
    | .fault r => .fault r
    | .wait t => .next t.advanceDevices
    | .fetch t =>
      match exec t.fetchInstr t with
      | .next u => .next (u.promoteEi t.eiPending).advanceDevices
      | .fault r => .fault r
      | .refused r => .refused r

/-- The state, with the instruction of a table word stored where its next step fetches: a load where no image is loaded (log entry 3),
and the bytes in the storage behind the fetch address. -/
def State.withFetchWord (s : State) (nbits w : Nat) : State := s.placeInstr (tableBytes nbits w)

end Sys2Proof.Machine
end

