-- ==== Sys2Proof/Machine/HostOps.lean ====
section
/-! DEFINITION. The host's operations, each run between core steps: load, reset, step, run, take_frame, read_fb, press, release and
fault (60_exceptions R470, R471, R480 to R486; 70_reset_and_hazards R500 to R505). -/

namespace Sys2Proof.Machine

/-- Whether a bus address is a byte of WRAM, HRAM, VRAM or OAM, the arrays `INIT_RAM` fills (10_state R53). -/
def isRamAddress (a : Nat) : Bool :=
  (decide (0x8000 ≤ a) && decide (a < 0xA000)) || (decide (0xC000 ≤ a) && decide (a < 0xE000)) ||
    (decide (0xFE00 ≤ a) && decide (a < 0xFEA0)) || (decide (0xFF80 ≤ a) && decide (a < 0xFFFF))

/-- The RAM arrays at reset: `INIT_RAM`, in canonical form (10_state R53). -/
def ramAtReset (p : Params) : Memory := Memory.writeAll [] (p.initRam.filter fun c => isRamAddress c.1)

/-- `reset()`: the state of 70_reset_and_hazards R500; the image and the save RAM are kept (R500, 20_memory R145). -/
def State.hostReset (s : State) : State :=
  State.resetWith (ramAtReset s.params) (s.cart.map Cart.resetBanks) s.params

/-- `load(image)`: a fresh cartridge and a reset, or no image loaded (70_reset_and_hazards R503, R504; 60_exceptions R485). The Bool is
what the host gets back: whether the load succeeded. After a failed load the machine is in the reset state: R503 has the other operations
work "on the reset state" there (DEDUCED, log entry 19). -/
def State.hostLoad (s : State) (image : List Byte) : State × Bool :=
  match Cart.ofImage s.params image with
  | some c => ({ s with cart := some c }.hostReset, true)
  | none => ({ s with cart := none }.hostReset, false)

/-- `step()`: one core step and its cycles; in the faulted state, and for a step that faults, no cycles; none where it is refused
because no image is loaded (60_exceptions R400, R405, R480, R485). -/
def State.hostStep (s : State) : Option (State × Nat) :=
  match step s with
  | .next t => some (t, t.cycles)
  | .fault r => if s.fault = none then some (s.faulted r, 0) else some (s, 0)
  | .refused _ => none

/-- The loop of `run(n)` with what it has consumed so far (60_exceptions R481). Each core step costs at least 4, so fuel n is enough. -/
def State.runLoop (n : Nat) : Nat → Nat → State → State × Nat
  | 0, consumed, s => (s, consumed)
  | fuel + 1, consumed, s =>
    if consumed < n ∧ s.fault = none then
      match s.hostStep with
      | some (t, c) => State.runLoop n fuel (consumed + c) t
      | none => (s, consumed)
    else (s, consumed)

/-- `run(n)`: the state and the cycles consumed; none where it is refused because no image is loaded (60_exceptions R481, R485). -/
def State.hostRun (s : State) (n : Nat) : Option (State × Nat) :=
  if s.cart = none then none else some (State.runLoop n n 0 s)

/-- `take_frame()`: the frame-ready signal, which it clears (60_exceptions R483). -/
def State.takeFrame (s : State) : State × Bool :=
  (s.mapPpu fun p => { p with frameReady := false }, s.ppu.frameReady)

/-- `read_fb()`: the 23040 shades, pixel (x, y) at index `y*160 + x` (60_exceptions R460, R484). -/
def State.readFb (s : State) : List Shade := s.ppu.fb.flatten

/-- The host's pixels under a conversion `SHADE_TO_PIXEL`, which is outside the core (00_scope R6, 60_exceptions R484). -/
def State.pixels {α : Type} (shadeToPixel : Shade → α) (s : State) : List α := s.readFb.map shadeToPixel

/-- `fault()`: none, or the fault record (60_exceptions R405, R480). -/
def State.hostFault (s : State) : Option Fault := s.fault

/-- The eight buttons (10_state R52). -/
inductive Button where
  | right | left | up | down | a | b | select | start
deriving DecidableEq, Repr

/-- The button's bit in its mask (10_state R52). -/
def Button.mask : Button → BitVec 4
  | .right | .a => 0b0001
  | .left | .b => 0b0010
  | .up | .select => 0b0100
  | .down | .start => 0b1000

/-- Whether the button is one of the direction buttons, kept in jdir (10_state R52). -/
def Button.isDirection : Button → Bool
  | .right | .left | .up | .down => true
  | .a | .b | .select | .start => false

/-- Replace the mask that holds the button. -/
def Joypad.mapMask (j : Joypad) (k : Button) (f : BitVec 4 → BitVec 4) : Joypad :=
  if k.isDirection then { j with jdir := f j.jdir } else { j with jact := f j.jact }

/-- A change of the masks requests JOYPAD; a repeated event changes nothing and requests nothing (60_exceptions R471). -/
def State.setJoypad (s : State) (j : Joypad) : State :=
  if j = s.joy then s else { s with joy := j }.request .joypad

/-- `press(b)`: the button's bit is cleared (60_exceptions R470, R471). -/
def State.press (s : State) (k : Button) : State := s.setJoypad (s.joy.mapMask k fun m => m &&& ~~~k.mask)

/-- `release(b)`: the button's bit is set (60_exceptions R470, R471). -/
def State.release (s : State) (k : Button) : State := s.setJoypad (s.joy.mapMask k fun m => m ||| k.mask)

end Sys2Proof.Machine
end

