-- ==== Sys2Proof/Safety.lean ====
section
/-! DEFINITION. What a claim may lean on: the well-formed states, the frames of an instruction, the storage behind an address, and the
PPU's place in a frame. -/

namespace Sys2Proof.Machine

/-- F's bits 3-0 are 0 (10_state R33). -/
def Regs.wf (g : Regs) : Prop := g.f &&& 0x0F = 0

/-- The ranges of tacc and reload_cd (10_state R43). -/
def Timer.wf (delay : Nat) (t : Timer) : Prop := t.tacc < t.period ∧ t.reloadCd ≤ delay

/-- The captured sprites: at most 10, in priority order, each an OAM entry with a legal X (10_state R49, 60_exceptions R451). -/
def spritesWf (l : List Sprite) : Prop :=
  l.length ≤ 10 ∧ l.Pairwise (fun a b => a.before b = true) ∧ ∀ e ∈ l, e.index < 40 ∧ e.x ≠ 0 ∧ e.x.toNat < 168

/-- The frame buffer is 160 x 144 (10_state R49). -/
def frameBufferWf (fb : List (List Shade)) : Prop := fb.length = 144 ∧ ∀ row ∈ fb, row.length = 160

/-- The ranges of the PPU's state: dots below the mode's budget, LY at most 153 and in VBLANK exactly from line 144 on, the window line not
ahead of the line, the window drawn only in HBLANK; the state of a switched-off LCD (10_state R46, R49, 60_exceptions R450 to R462). The
window line's bound is 144, which R455's increments reach, where R49 gives 143 (log entry 10). -/
structure Ppu.Wf (p : Ppu) : Prop where
  dots : p.dots < p.mode.budget
  line : p.ly.toNat ≤ 153
  vblank : p.mode = .vblank ↔ 144 ≤ p.ly.toNat
  window : p.wline ≤ p.ly.toNat ∧ p.wline ≤ 144
  drawn : p.winDrawn = true → p.mode = .hblank
  off : p.lcdOn = false → p.mode = .hblank ∧ p.ly = 0 ∧ p.dots = 0 ∧ p.wline = 0 ∧ p.winDrawn = false
  sprites : spritesWf p.sprites
  frame : frameBufferWf p.fb

/-- A byte of the store at an address: VRAM, WRAM, OAM, HRAM, or a byte of the internal I/O file (10_state R53). -/
def isStored (a : Nat) : Bool :=
  isRamAddress a ||
    (decide (0xFF00 ≤ a) && decide (a < 0xFF80) && decide (ioRegOf (BitVec.ofNat 16 a) = .file))

/-- The store is in canonical form and lists only bytes it holds. -/
def storeWf (m : Memory) : Prop := m.wf ∧ ∀ c ∈ m, isStored c.1 = true

/-- A loaded cartridge: an image of at least 0x150 bytes, both memories in canonical form and within their sizes, and an MBC1 bank_lo that
is never 0 (20_memory R142, R143, R146). -/
structure Cart.Wf (c : Cart) : Prop where
  length : 0x150 ≤ c.imageLen
  image : c.image.wf ∧ ∀ k ∈ c.image, k.1 < c.imageLen
  ram : c.ram.wf ∧ ∀ k ∈ c.ram, k.1 < c.ramSize
  bank : ∀ b, c.banking = .mbc1 b → b.bankLo ≠ 0

/-- The invariant of the machine: what every reachable state satisfies. -/
structure State.Wf (s : State) : Prop where
  regs : s.regs.wf
  timer : s.timer.wf s.params.timerReloadDelay
  ppu : s.ppu.Wf
  mem : storeWf s.mem
  cart : ∀ c, s.cart = some c → c.Wf

/-- A safe step: it answers a next state. -/
def State.stepSafe (s : State) : Prop := ∃ t, step s = .next t

/-- Every byte the bus can read is as before. -/
def SameMemory (s t : State) : Prop := ∀ a, t.busRead a = s.busRead a

/-- The 8-bit registers but those listed are as before. -/
def SameRegs (except : List Reg8) (s t : State) : Prop := ∀ r, r ∉ except → t.reg r = s.reg r

/-- F is as before: no flag is written, nor any other bit of F. -/
def SameF (s t : State) : Prop := t.regs.f = s.regs.f

/-- SP is as before. -/
def SameSp (s t : State) : Prop := t.regs.sp = s.regs.sp

/-- The engine's control state, the host's count and the parameters are as before. -/
def SameControl (s t : State) : Prop :=
  t.ime = s.ime ∧ t.eiPending = s.eiPending ∧ t.halted = s.halted ∧ t.fault = s.fault ∧ t.totalCycles = s.totalCycles ∧
    t.params = s.params

/-- The interrupt registers, the devices, the store and the cartridge are as before. -/
def SameDevices (s t : State) : Prop :=
  t.ie = s.ie ∧ t.iflag = s.iflag ∧ t.timer = s.timer ∧ t.ppu = s.ppu ∧ t.joy = s.joy ∧ t.mem = s.mem ∧ t.cart = s.cart

/-- Nothing outside the register file has changed but the step's cost. -/
def SameOutside (s t : State) : Prop := SameControl s t ∧ SameDevices s t ∧ SameMemory s t

/-- pc is past an instruction of `len` bytes, and its cost is charged. -/
def Passed (len cost : Nat) (s t : State) : Prop :=
  t.regs.pc = s.regs.pc + BitVec.ofNat 16 len ∧ t.cycles = s.cycles + cost

/-- The four flags are these, and F's bits 3-0 are 0. -/
def FlagsAre (t : State) (z n h c : Bool) : Prop :=
  t.flagZ = z ∧ t.flagN = n ∧ t.flagH = h ∧ t.flagC = c ∧ t.regs.f &&& 0x0F = 0

/-- An address whose byte is plain storage that no write side effect belongs to: WRAM and its echo, HRAM, the I/O file, and VRAM and OAM
where they are not blocked (20_memory R101, R105, R111, R129). -/
def State.plainAt (s : State) (a : Word) : Prop :=
  match regionOf a with
  | .wram | .echo | .hram => True
  | .vram => s.vramBlocked = false
  | .oam => s.oamBlocked = false
  | .io => ioRegOf a = .file
  | _ => False

/-- The address that names a byte's storage: an echo address names the work-RAM byte 0x2000 below it (20_memory R103). -/
def storageOf (a : Word) : Word := if regionOf a = .echo then a - 0x2000 else a

/-- After a store of `v` at `a`: the bytes of `a`'s storage read `v`, every other address reads as before (20_memory R101, R103). -/
def StoredByte (a : Word) (v : Byte) (s t : State) : Prop :=
  ∀ x, t.busRead x = if storageOf x = storageOf a then v else s.busRead x

/-- Nothing has changed but the 8-bit registers listed, F, pc and the step's cost. -/
def OnlyRegsF (rs : List Reg8) (s t : State) : Prop := SameRegs rs s t ∧ SameSp s t ∧ SameOutside s t

/-- Nothing has changed but the 8-bit registers listed, pc and the step's cost. -/
def OnlyRegs (rs : List Reg8) (s t : State) : Prop := OnlyRegsF rs s t ∧ SameF s t

/-- The two 8-bit registers of a pair; SP is no pair of registers (10_state R31). -/
def pairHalves : Reg16 → List Reg8
  | .bc => [.b, .c]
  | .de => [.d, .e]
  | .hl => [.h, .l]
  | .sp => []

/-- The 8-bit registers that a stack pair holds besides F (10_state R31). -/
def stackHalves : StackReg → List Reg8
  | .bc => [.b, .c]
  | .de => [.d, .e]
  | .hl => [.h, .l]
  | .af => [.a]

/-- Nothing has changed but the pair (or SP), F, pc and the step's cost. -/
def OnlyPairF (p : Reg16) (s t : State) : Prop :=
  SameRegs (pairHalves p) s t ∧ (p ≠ .sp → SameSp s t) ∧ SameOutside s t

/-- Nothing has changed but the pair (or SP), pc and the step's cost. -/
def OnlyPair (p : Reg16) (s t : State) : Prop := OnlyPairF p s t ∧ SameF s t

/-- `MemWrite(a, 1, v)` has been done and nothing else to the devices, the store and the cartridge: at plain storage its bytes read `v`
and every other address reads as before; elsewhere the device at `a` has the effect of the bus write (20_memory R101, R103, R111). -/
def Stored (a : Word) (v : Byte) (s t : State) : Prop :=
  SameDevices (s.busWrite a v) t ∧ (s.mem.wf → s.plainAt a → StoredByte a v s t)

/-- Two bus writes have been done, `v` at `a` and then `w` at `b`, and nothing else to the devices, the store and the cartridge. -/
def StoredTwo (a : Word) (v : Byte) (b : Word) (w : Byte) (s t : State) : Prop :=
  SameDevices ((s.busWrite a v).busWrite b w) t ∧
    (s.mem.wf → s.plainAt a → s.plainAt b → ∀ x, t.busRead x =
      if storageOf x = storageOf b then w else if storageOf x = storageOf a then v else s.busRead x)

/-- Nothing has changed but the byte stored, the 8-bit registers listed, F, pc and the step's cost. -/
def OnlyStoreF (rs : List Reg8) (a : Word) (v : Byte) (s t : State) : Prop :=
  SameRegs rs s t ∧ SameSp s t ∧ SameControl s t ∧ Stored a v s t

/-- Nothing has changed but the byte stored, the 8-bit registers listed, pc and the step's cost. -/
def OnlyStore (rs : List Reg8) (a : Word) (v : Byte) (s t : State) : Prop := OnlyStoreF rs a v s t ∧ SameF s t

/-- `Push16(v)` has been done, the high byte first, and nothing else but to pc and the step's cost (40_load R200). -/
def OnlyPush (v : Word) (s t : State) : Prop :=
  t.regs.sp = s.regs.sp - 2 ∧
    StoredTwo (s.regs.sp - 1) (v.extractLsb' 8 8) (s.regs.sp - 2) (v.extractLsb' 0 8) s t ∧
    SameRegs [] s t ∧ SameF s t ∧ SameControl s t

/-- The word `Pop16()` returns: the low byte at SP, the high byte at SP + 1 (40_load R200). -/
def State.stackTop (s : State) : Word := s.busRead (s.regs.sp + 1) ++ s.busRead s.regs.sp

/-- `Pop16()` has been done into no register: SP is raised by 2, and nothing else has changed but pc and the step's cost. -/
def OnlyPop (s t : State) : Prop := t.regs.sp = s.regs.sp + 2 ∧ SameRegs [] s t ∧ SameF s t ∧ SameOutside s t

/-- The operand `o` has been written with `w`, and nothing else but F, pc and the step's cost (30_encoding R152). -/
def WroteOperandF (o : Operand8) (w : Byte) (s t : State) : Prop :=
  match o with
  | .reg r => t.reg r = w ∧ OnlyRegsF [r] s t
  | .atHL => OnlyStoreF [] s.hl w s t

/-- A next state whose pc is `target`, for the cost given: a jump. -/
def Jumped (target : Word) (cost : Nat) (s t : State) : Prop := t.regs.pc = target ∧ t.cycles = s.cycles + cost

/-- The result and the flags of an 8-bit operation, in the words of 43_alu R300 to R308: `cin` is 1 or 0, and `res` is what A holds
after the operation; after CP it holds what it held. -/
def AluRule (op : AluOp) (a v cin : Nat) (res : Byte) (t : State) : Prop :=
  match op with
  | .add => res.toNat = (a + v) % 256 ∧
      FlagsAre t (decide ((a + v) % 256 = 0)) false (decide (15 < a % 16 + v % 16)) (decide (255 < a + v))
  | .adc => res.toNat = (a + v + cin) % 256 ∧
      FlagsAre t (decide ((a + v + cin) % 256 = 0)) false (decide (15 < a % 16 + v % 16 + cin)) (decide (255 < a + v + cin))
  | .sub => res.toNat = (a + 256 - v) % 256 ∧
      FlagsAre t (decide (a = v)) true (decide (a % 16 < v % 16)) (decide (a < v))
  | .cp => res.toNat = a ∧ FlagsAre t (decide (a = v)) true (decide (a % 16 < v % 16)) (decide (a < v))
  | .sbc => res.toNat = (a + 512 - v - cin) % 256 ∧
      FlagsAre t (decide ((a + 512 - v - cin) % 256 = 0)) true (decide (a % 16 < v % 16 + cin)) (decide (a < v + cin))
  | .and => res.toNat = a &&& v ∧ FlagsAre t (decide (a &&& v = 0)) false true false
  | .xor => res.toNat = a ^^^ v ∧ FlagsAre t (decide (a ^^^ v = 0)) false false false
  | .or => res.toNat = a ||| v ∧ FlagsAre t (decide (a ||| v = 0)) false false false

/-- The result of a rotate or shift as a number, in the words of 44_rotate_shift R330 to R342. -/
def rotRule (op : RotOp) (v cin : Nat) : Nat :=
  match op with
  | .rlc => (2 * v + v / 128) % 256
  | .rrc => v / 2 + 128 * (v % 2)
  | .rl => (2 * v + cin) % 256
  | .rr => v / 2 + 128 * cin
  | .sla => 2 * v % 256
  | .sra => v / 2 + 128 * (v / 128)
  | .swap => 16 * (v % 16) + v / 16
  | .srl => v / 2

/-- The bit that a rotate or shift moves into C, in the words of 44_rotate_shift R330 to R342. -/
def rotCarryRule (op : RotOp) (v : Nat) : Bool :=
  match op with
  | .rlc | .rl | .sla => decide (128 ≤ v)
  | .rrc | .rr | .sra | .srl => decide (v % 2 = 1)
  | .swap => false

/-- The byte that holds two decimal digits. -/
def bcd (x : Nat) : Byte := BitVec.ofNat 8 (16 * (x / 10) + x % 10)

/-- The state, its store replaced: nothing else differs. -/
def OnlyMem (s t : State) : Prop := t = { s with mem := t.mem }

/-- An interrupt is due: IME is set and an enabled request is pending (60_exceptions R402). -/
def State.serviceDue (s : State) : Prop := s.ime = true ∧ s.pending ≠ 0

/-- The engine waits: it is halted and no enabled request is pending (60_exceptions R401, R404). -/
def State.waiting (s : State) : Prop := s.halted = true ∧ s.pending = 0

/-- The machine can step: an image is loaded and no fault was raised (60_exceptions R405, R485). -/
def State.ready (s : State) : Prop := s.cart ≠ none ∧ s.fault = none

/-- The PPU's T-cycles since the start of the current line (60_exceptions R459). -/
def Ppu.linePos (p : Ppu) : Nat :=
  match p.mode with
  | .oamSearch => p.dots
  | .dataTransfer => 80 + p.dots
  | .hblank => 252 + p.dots
  | .vblank => p.dots

/-- The PPU's T-cycles since the start of the frame: line 0 (60_exceptions R459). -/
def Ppu.framePos (p : Ppu) : Nat := p.ly.toNat * 456 + p.linePos

end Sys2Proof.Machine
end

