-- ==== Sys2Proof/Certificates/Slice0/Obligations.lean ====
section
/-! DEFINITION. The statements for the provers. Each docstring says which statement of the spec it formalises. The hypotheses' witnesses stand
in Sys2Proof/Tests/Slice0.lean. -/

open Sys2Proof Sys2Proof.Machine

/-- Instruction words written out from the spec decode to their instructions (derived: 30_encoding.md section 3, rules R170 and R171, 40_load.md to
45_misc.md, the encodings in the rules). -/
def Obligations.WordsOfTheSpecDecode : Prop :=
  decode [0x48] = .ok (.ld_C_B, []) ∧ decode [0x06, 0xAB] = .ok (.ld_B_n 0xAB, []) ∧
  decode [0x7E] = .ok (.ld_A_atHL, []) ∧ decode [0x08, 0x00, 0xC1] = .ok (.ld_atNn_SP 0xC100, []) ∧
  decode [0x21, 0x34, 0x12] = .ok (.ld_HL_nn 0x1234, []) ∧ decode [0xF1] = .ok (.pop_AF, []) ∧
  decode [0xC3, 0x50, 0x01] = .ok (.jp_nn 0x0150, []) ∧ decode [0x18, 0xFE] = .ok (.jr_e (-2), []) ∧
  decode [0x20, 0xFC] = .ok (.jr_NZ_e (-4), []) ∧ decode [0xD4, 0x00, 0x03] = .ok (.call_NC_nn 0x0300, []) ∧
  decode [0xEF] = .ok (.rst_28H, []) ∧ decode [0x35] = .ok (.dec_atHL, []) ∧ decode [0x9C] = .ok (.sbc_A_H, []) ∧
  decode [0xE8, 0x02] = .ok (.add_SP_e 2, []) ∧ decode [0xCB, 0x7C] = .ok (.bit_7_H, []) ∧
  decode [0xCB, 0xCB] = .ok (.set_1_E, []) ∧ decode [0x27] = .ok (.daa, []) ∧ decode [0x10, 0x00] = .ok (.stop 0x00, []) ∧
  decode [0xD3] = .ok (.illegal_D3, [])

/-- Decoding the bytes of any well-formed instruction gives it back, with the bytes after it (derived: 30_encoding.md section 1, rules R150 to R156,
30_encoding.md section 3, rules R170 and R171). -/
def Obligations.DecodeEncodeRoundTrip : Prop :=
  ∀ (i : Instr) (rest : List Byte), i.wellFormed = true → decode (encode i ++ rest) = .ok (i, rest)

/-- Every opcode byte and the two bytes after it are the encoding of one well-formed instruction (derived: 30_encoding.md section 2, rule R163,
30_encoding.md section 1, rule R150). -/
def Obligations.EveryByteTripleIsOneInstruction : Prop :=
  ∀ op b1 b2 : Byte,
    (decodeBytes op b1 b2).wellFormed = true ∧ encode (decodeBytes op b1 b2) = [op, b1, b2].take (opcodeLength op)

/-- A step runs the instruction decoded at pc, with the EI promotion and the device advance after it (derived: 60_exceptions.md section 1, rules R400
and R401, 30_encoding.md section 2, rules R160 and R161). -/
def Obligations.StepRunsDecodedInstruction : Prop :=
  (∀ (s u : State) (i : Instr) (rest : List Byte), s.ready → s.beginStep = .fetch u →
    decode [u.busRead u.regs.pc, u.busRead (u.regs.pc + 1), u.busRead (u.regs.pc + 2)] = .ok (i, rest) →
      (∀ w, exec i u = .next w → step s = .next (w.promoteEi u.eiPending).advanceDevices) ∧
      (∀ r, exec i u = .fault r → step s = .fault r)) ∧
  (∀ s : State, ¬ s.serviceDue → ¬ s.waiting → s.beginStep = .fetch { s with cycles := 0, halted := false })

/-- After an engine step the timer and the PPU advance by its cost, and total_cycles counts it (derived: 60_exceptions.md section 1, rule R400,
60_exceptions.md section 4, rule R440, 60_exceptions.md section 5, rules R450 and R461, 10_state.md section 10, rule R56). -/
def Obligations.DevicesAdvanceByTheCost : Prop :=
  (∀ s : State,
    s.advanceDevices.timer = (Timer.advance s.params.timerReloadDelay s.cycles s.timer).timer ∧
    s.advanceDevices.ppu = ((s.timerAdvance s.cycles).ppuAdvance s.cycles).ppu ∧
    s.advanceDevices.ppu = (s.ppuAdvance s.cycles).ppu ∧
    s.advanceDevices.iflag = s.iflag |||
      (if (Timer.advance s.params.timerReloadDelay s.cycles s.timer).request then 0b00100#5 else 0#5) |||
      (State.ppuAdvance { s with iflag := 0 } s.cycles).iflag ∧
    (∀ k, 2 ≤ k → (State.ppuAdvance { s with iflag := 0 } s.cycles).iflag.getLsbD k = false) ∧
    (∀ k, s.iflag.getLsbD k = true → s.advanceDevices.iflag.getLsbD k = true) ∧
    s.advanceDevices.totalCycles = s.totalCycles + s.cycles ∧ s.advanceDevices.cycles = s.cycles ∧
    s.advanceDevices.regs = s.regs ∧ s.advanceDevices.ime = s.ime ∧ s.advanceDevices.eiPending = s.eiPending ∧
    s.advanceDevices.halted = s.halted ∧ s.advanceDevices.fault = s.fault ∧ s.advanceDevices.ie = s.ie ∧
    s.advanceDevices.joy = s.joy ∧ s.advanceDevices.mem = s.mem ∧ s.advanceDevices.cart = s.cart ∧
    s.advanceDevices.params = s.params ∧ s.advanceDevices.ppu.lcdc = s.ppu.lcdc ∧
    s.advanceDevices.ppu.statEnables = s.ppu.statEnables ∧ s.advanceDevices.ppu.scy = s.ppu.scy ∧
    s.advanceDevices.ppu.scx = s.ppu.scx ∧ s.advanceDevices.ppu.lyc = s.ppu.lyc ∧ s.advanceDevices.ppu.dma = s.ppu.dma ∧
    s.advanceDevices.ppu.bgp = s.ppu.bgp ∧ s.advanceDevices.ppu.obp0 = s.ppu.obp0 ∧ s.advanceDevices.ppu.obp1 = s.ppu.obp1 ∧
    s.advanceDevices.ppu.wy = s.ppu.wy ∧ s.advanceDevices.ppu.wx = s.ppu.wx) ∧
  (∀ (s : State) (n : Nat),
    State.advanceDevices { s with totalCycles := n } = { s.advanceDevices with totalCycles := n + s.cycles }) ∧
  (∀ (s : State) (c : Nat), s.ppu.lcdc.getLsbD 7 = false → s.ppuAdvance c = s) ∧
  (∀ (s : State) (c b : Nat), s.ppu.lcdc.getLsbD 7 = true →
    b = (match s.ppu.mode with | .oamSearch => 80 | .dataTransfer => 172 | .hblank => 204 | .vblank => 456) →
    (s.ppu.dots + c < b → s.ppuAdvance c = { s with ppu := { s.ppu with dots := s.ppu.dots + c } }) ∧
    (b ≤ s.ppu.dots + c →
      s.ppuAdvance c = (State.modeEnd { s with ppu := { s.ppu with dots := s.ppu.dots + c - b } }).ppuAdvance 0)) ∧
  (∀ s : State, (s.ppu.mode = .oamSearch → s.modeEnd = s.endOamSearch) ∧ (s.ppu.mode = .dataTransfer → s.modeEnd = s.endDataTransfer) ∧
    (s.ppu.mode = .hblank → s.modeEnd = s.endHblank) ∧ (s.ppu.mode = .vblank → s.modeEnd = s.endVblankLine))

/-- An interrupt service takes the lowest pending enabled source, or faults where its push would write IE (stated: R402, R422). -/
def Obligations.InterruptServiceDispatches : Prop :=
  ∀ (s : State) (k : Fin 5), s.ready → s.ime = true →
    (s.ie.getLsbD k.val = true ∧ s.iflag.getLsbD k.val = true) →
    (∀ j < k.val, ¬ (s.ie.getLsbD j = true ∧ s.iflag.getLsbD j = true)) →
    ((s.regs.sp = 0x0000 ∨ s.regs.sp = 0x0001) → step s = .fault (.servicePushIE s.regs.pc)) ∧
    (s.regs.sp ≠ 0x0000 → s.regs.sp ≠ 0x0001 → ∃ t, s.beginStep = .fetch t ∧
      t.regs.pc = BitVec.ofNat 16 (0x0040 + 8 * k.val) ∧ t.cycles = 20 ∧
      t.ime = false ∧ t.eiPending = false ∧ t.halted = false ∧ t.fault = s.fault ∧ t.totalCycles = s.totalCycles ∧
      t.params = s.params ∧ SameRegs [] s t ∧ SameF s t ∧ t.regs.sp = s.regs.sp - 2 ∧
      StoredTwo (s.regs.sp - 1) (s.regs.pc.extractLsb' 8 8) (s.regs.sp - 2) (s.regs.pc.extractLsb' 0 8)
        { s with iflag := s.iflag &&& ~~~(BitVec.ofNat 5 (2 ^ k.val)) } t)

/-- A halted engine waits 4 T-cycles without fetching, and any pending enabled request ends the halt (derived: 60_exceptions.md section 1, rules R401
and R404, 10_state.md section 4, rule R38). -/
def Obligations.HaltedWaitAndWakeUp : Prop :=
  (∀ s : State, s.ready → s.waiting → step s = .next (State.advanceDevices { s with cycles := 4 })) ∧
  (∀ s : State, s.ime = false → s.pending ≠ 0 → s.beginStep = .fetch { s with cycles := 0, halted := false }) ∧
  (∀ s : State, s.halted = false → s.pending = 0 → s.beginStep = .fetch { s with cycles := 0 }) ∧
  (∀ (s u w : State), s.ready → s.beginStep = .fetch u → exec u.fetchInstr u = .next w →
    step s = .next (w.promoteEi u.eiPending).advanceDevices) ∧
  (∀ (s u : State) (r : Fault), s.ready → s.beginStep = .fetch u → exec u.fetchInstr u = .fault r → step s = .fault r)

/-- IME follows EI at the end of the step that runs the next instruction, unless DI or a service came between (stated: R403). -/
def Obligations.InterruptEnableIsDelayed : Prop :=
  (∀ (s u w t : State), s.ready → s.beginStep = .fetch u → exec u.fetchInstr u = .next w → step s = .next t →
    (u.eiPending = true → w.eiPending = true → t.ime = true ∧ t.eiPending = false) ∧
    (¬ (u.eiPending = true ∧ w.eiPending = true) → t.ime = w.ime ∧ t.eiPending = w.eiPending)) ∧
  (∀ s : State, ∃ t, exec .ei s = .next t ∧ t.eiPending = true ∧ t.ime = s.ime) ∧
  (∀ s : State, ∃ t, exec .di s = .next t ∧ t.eiPending = false ∧ t.ime = false) ∧
  (∀ (s u : State), s.serviceDue → s.beginStep = .fetch u → u.ime = false ∧ u.eiPending = false) ∧
  (∀ (s u : State), ¬ s.serviceDue → s.beginStep = .fetch u → u.ime = s.ime ∧ u.eiPending = s.eiPending) ∧
  (∀ (s t : State), s.waiting → step s = .next t → t.ime = s.ime ∧ t.eiPending = s.eiPending)

/-- A step faults for exactly the four causes of the fault table, or answers a recorded fault again, and is refused exactly where no image is loaded
(derived: 60_exceptions.md rules R405, R406, R408 and R485). That a machine with a recorded fault answers it again is the model's reading of R405
(DEDUCED, log entry 5). -/
def Obligations.StepStopsOnlyForNamedCauses : Prop :=
  (∀ (s : State) (r : Refusal), step s = .refused r ↔ s.cart = none ∧ r = .noImageLoaded) ∧
  (∀ (s : State) (r : Fault), step s = .fault r ↔ s.cart ≠ none ∧
    (s.fault = some r ∨
     (s.fault = none ∧ s.serviceDue ∧ (s.regs.sp = 0x0000 ∨ s.regs.sp = 0x0001) ∧ r = .servicePushIE s.regs.pc) ∨
     (s.fault = none ∧ ∃ u, s.beginStep = .fetch u ∧
       ((u.busRead u.regs.pc ∈ [0xD3#8, 0xDB#8, 0xDD#8, 0xE3#8, 0xE4#8, 0xEB#8, 0xEC#8, 0xED#8, 0xF4#8, 0xFC#8, 0xFD#8] ∧
           r = .illegalOpcode (u.busRead u.regs.pc) u.regs.pc) ∨
        (u.busRead u.regs.pc = 0x10 ∧ r = .stop u.regs.pc) ∨
        (u.busRead u.regs.pc = 0x76 ∧ u.ime = false ∧ u.pending ≠ 0 ∧ r = .haltBug u.regs.pc)))))

/-- A fault leaves the state of the fault table, adds no cycles, and no further step exists (derived: 60_exceptions.md rules R405, R480 and R481). Two
clauses are the model's choice: the recorded fault is answered again and the host's step then gives 0 cycles (DEDUCED, log entry 5), and the stored
cost of the step is 0 after a fault (DESIGN CHOICE, log entry 6). -/
def Obligations.FaultedStateIsTerminal : Prop :=
  (∀ (s : State) (r : Fault), s.ready → s.beginStep = .fault r →
    ∃ t, s.hostStep = some (t, 0) ∧ t = { s with halted := false, cycles := 0, fault := some r }) ∧
  (∀ (s u : State) (b : Byte) (a0 : Word), s.ready → s.beginStep = .fetch u →
    exec u.fetchInstr u = .fault (.illegalOpcode b a0) →
    s.hostStep = some ({ u with cycles := 0, fault := some (.illegalOpcode b a0) }, 0) ∧ u.regs.pc = a0) ∧
  (∀ (s u : State) (a0 : Word), s.ready → s.beginStep = .fetch u → exec u.fetchInstr u = .fault (.stop a0) →
    s.hostStep = some ({ u with cycles := 0, fault := some (.stop a0) }, 0) ∧ u.regs.pc = a0) ∧
  (∀ (s u : State) (a0 : Word), s.ready → s.beginStep = .fetch u → exec u.fetchInstr u = .fault (.haltBug a0) →
    (∃ t, s.hostStep = some (t, 0) ∧ t.regs = { u.regs with pc := a0 + 1 } ∧ t.halted = false ∧ t.fault = some (.haltBug a0) ∧
      t.ime = u.ime ∧ t.eiPending = u.eiPending ∧ t.totalCycles = s.totalCycles ∧ SameDevices u t) ∧ u.regs.pc = a0) ∧
  (∀ (s : State) (r : Fault) (n : Nat), s.cart ≠ none → s.fault = some r →
    step s = .fault r ∧ s.hostStep = some (s, 0) ∧ s.hostRun n = some (s, 0) ∧ s.hostReset.fault = none)

/-- Every step costs a multiple of 4 from 4 to 44 T-cycles, and total_cycles grows by exactly that (derived: 60_exceptions.md section 5, rule R450,
70_reset_and_hazards.md section 3, rule R520). -/
def Obligations.StepCostIsFourToFortyFour : Prop :=
  ∀ s t : State, step s = .next t →
    4 ≤ t.cycles ∧ t.cycles ≤ 44 ∧ t.cycles % 4 = 0 ∧ t.totalCycles = s.totalCycles + t.cycles

/-- Every step keeps the machine well formed (derived: 10_state.md rules R33, R43 and R49, 20_memory.md rule R143, 60_exceptions.md rules R450 to
R462). The canonical form of the store is the model's own (log entries 2 and 8); the window line's bounds, by LY and by 144, are too: R49 gives 0 to
143, and the increments of R455 reach 144 (log entry 10). -/
def Obligations.StepKeepsWellFormedness : Prop :=
  ∀ s t : State, s.Wf → step s = .next t → t.Wf

/-- Load, reset, press, release, take_frame and a faulting step keep the machine well formed (derived: 60_exceptions.md rule R480,
70_reset_and_hazards.md rules R500, R503 and R504). The canonical form (log entries 2 and 8) and the bound 144 of the window line (log entry 10) are
the model's own. -/
def Obligations.HostOperationsKeepWellFormedness : Prop :=
  ∀ s : State, s.Wf → s.hostReset.Wf ∧ (∀ image, (s.hostLoad image).1.Wf) ∧ (∀ k, (s.press k).Wf ∧ (s.release k).Wf) ∧
    s.takeFrame.1.Wf ∧ (∀ t n, s.hostStep = some (t, n) → t.Wf)

/-- The reset state is well formed (derived: 70_reset_and_hazards.md rule R500; the canonical form and the bound 144 of the window line are the
model's own, log entries 2, 8 and 10). -/
def Obligations.ResetStateIsWellFormed : Prop :=
  State.reset.Wf

/-- LD r,r' and LD r,n write the one register and nothing else (stated: R201, R202). -/
def Obligations.RegisterLoads : Prop :=
  (∀ (dst r : Reg8) (s : State), ∃ t, exec (Instr.ldRegReg dst r) s = .next t ∧
    encode (Instr.ldRegReg dst r) = [BitVec.ofNat 8 (0x40 + 8 * dst.sel + r.sel)] ∧
    Passed 1 4 s t ∧ t.reg dst = s.reg r ∧ OnlyRegs [dst] s t) ∧
  (∀ (dst : Reg8) (n : Byte) (s : State), ∃ t, exec (Instr.ldRegImm dst n) s = .next t ∧
    encode (Instr.ldRegImm dst n) = [BitVec.ofNat 8 (0x06 + 8 * dst.sel), n] ∧
    Passed 2 8 s t ∧ t.reg dst = n ∧ OnlyRegs [dst] s t)

/-- The loads from memory write the one register with the byte the bus reads (stated: R203, R206, R207, R210, R212, R214, R217, R219). -/
def Obligations.MemoryLoads : Prop :=
  (∀ (dst : Reg8) (s : State), ∃ t, exec (Instr.ldRegAtHL dst) s = .next t ∧
    encode (Instr.ldRegAtHL dst) = [BitVec.ofNat 8 (0x46 + 8 * dst.sel)] ∧
    Passed 1 8 s t ∧ t.reg dst = s.busRead s.hl ∧ OnlyRegs [dst] s t) ∧
  (∀ s : State, ∃ t, exec .ld_A_atBC s = .next t ∧ encode .ld_A_atBC = [0x0A] ∧
    Passed 1 8 s t ∧ t.reg .a = s.busRead (s.pair .bc) ∧ OnlyRegs [.a] s t) ∧
  (∀ s : State, ∃ t, exec .ld_A_atDE s = .next t ∧ encode .ld_A_atDE = [0x1A] ∧
    Passed 1 8 s t ∧ t.reg .a = s.busRead (s.pair .de) ∧ OnlyRegs [.a] s t) ∧
  (∀ (nn : Word) (s : State), ∃ t, exec (.ld_A_atNn nn) s = .next t ∧
    encode (.ld_A_atNn nn) = [0xFA, nn.extractLsb' 0 8, nn.extractLsb' 8 8] ∧
    Passed 3 16 s t ∧ t.reg .a = s.busRead nn ∧ OnlyRegs [.a] s t) ∧
  (∀ (n : Byte) (s : State), ∃ t, exec (.ldh_A_atN n) s = .next t ∧ encode (.ldh_A_atN n) = [0xF0, n] ∧
    Passed 2 12 s t ∧ t.reg .a = s.busRead (0xFF00 + n.setWidth 16) ∧ OnlyRegs [.a] s t) ∧
  (∀ s : State, ∃ t, exec .ld_A_atC s = .next t ∧ encode .ld_A_atC = [0xF2] ∧
    Passed 1 8 s t ∧ t.reg .a = s.busRead (0xFF00 + (s.reg .c).setWidth 16) ∧ OnlyRegs [.a] s t) ∧
  (∀ s : State, ∃ t, exec .ld_A_atHLinc s = .next t ∧ encode .ld_A_atHLinc = [0x2A] ∧
    Passed 1 8 s t ∧ t.reg .a = s.busRead s.hl ∧ t.hl = s.hl + 1 ∧ OnlyRegs [.a, .h, .l] s t) ∧
  (∀ s : State, ∃ t, exec .ld_A_atHLdec s = .next t ∧ encode .ld_A_atHLdec = [0x3A] ∧
    Passed 1 8 s t ∧ t.reg .a = s.busRead s.hl ∧ t.hl = s.hl - 1 ∧ OnlyRegs [.a, .h, .l] s t)

/-- The stores write the byte, or for SP the two bytes, at their address through the bus and nothing else (stated: R204, R205, R208, R209, R211, R213,
R215, R216, R218, R221). -/
def Obligations.MemoryStores : Prop :=
  (∀ (r : Reg8) (s : State), ∃ t, exec (Instr.ldAtHLReg r) s = .next t ∧
    encode (Instr.ldAtHLReg r) = [BitVec.ofNat 8 (0x70 + r.sel)] ∧ Passed 1 8 s t ∧ OnlyStore [] s.hl (s.reg r) s t) ∧
  (∀ (n : Byte) (s : State), ∃ t, exec (.ld_atHL_n n) s = .next t ∧ encode (.ld_atHL_n n) = [0x36, n] ∧
    Passed 2 12 s t ∧ OnlyStore [] s.hl n s t) ∧
  (∀ s : State, ∃ t, exec .ld_atBC_A s = .next t ∧ encode .ld_atBC_A = [0x02] ∧
    Passed 1 8 s t ∧ OnlyStore [] (s.pair .bc) (s.reg .a) s t) ∧
  (∀ s : State, ∃ t, exec .ld_atDE_A s = .next t ∧ encode .ld_atDE_A = [0x12] ∧
    Passed 1 8 s t ∧ OnlyStore [] (s.pair .de) (s.reg .a) s t) ∧
  (∀ (nn : Word) (s : State), ∃ t, exec (.ld_atNn_A nn) s = .next t ∧
    encode (.ld_atNn_A nn) = [0xEA, nn.extractLsb' 0 8, nn.extractLsb' 8 8] ∧
    Passed 3 16 s t ∧ OnlyStore [] nn (s.reg .a) s t) ∧
  (∀ (n : Byte) (s : State), ∃ t, exec (.ldh_atN_A n) s = .next t ∧ encode (.ldh_atN_A n) = [0xE0, n] ∧
    Passed 2 12 s t ∧ OnlyStore [] (0xFF00 + n.setWidth 16) (s.reg .a) s t) ∧
  (∀ s : State, ∃ t, exec .ld_atC_A s = .next t ∧ encode .ld_atC_A = [0xE2] ∧
    Passed 1 8 s t ∧ OnlyStore [] (0xFF00 + (s.reg .c).setWidth 16) (s.reg .a) s t) ∧
  (∀ s : State, ∃ t, exec .ld_atHLinc_A s = .next t ∧ encode .ld_atHLinc_A = [0x22] ∧
    Passed 1 8 s t ∧ t.hl = s.hl + 1 ∧ OnlyStore [.h, .l] s.hl (s.reg .a) s t) ∧
  (∀ s : State, ∃ t, exec .ld_atHLdec_A s = .next t ∧ encode .ld_atHLdec_A = [0x32] ∧
    Passed 1 8 s t ∧ t.hl = s.hl - 1 ∧ OnlyStore [.h, .l] s.hl (s.reg .a) s t) ∧
  (∀ (nn : Word) (s : State), ∃ t, exec (.ld_atNn_SP nn) s = .next t ∧
    encode (.ld_atNn_SP nn) = [0x08, nn.extractLsb' 0 8, nn.extractLsb' 8 8] ∧ Passed 3 20 s t ∧
    StoredTwo nn (s.regs.sp.extractLsb' 0 8) (nn + 1) (s.regs.sp.extractLsb' 8 8) s t ∧
    SameRegs [] s t ∧ SameF s t ∧ SameSp s t ∧ SameControl s t)

/-- LD rr,nn and LD SP,HL write the one pair and nothing else (stated: R220, R222). -/
def Obligations.PairLoads : Prop :=
  (∀ (p : Reg16) (nn : Word) (s : State), ∃ t, exec (Instr.ldPairImm p nn) s = .next t ∧
    encode (Instr.ldPairImm p nn) = [BitVec.ofNat 8 (0x01 + 16 * p.sel), nn.extractLsb' 0 8, nn.extractLsb' 8 8] ∧
    Passed 3 12 s t ∧ t.pair p = nn ∧ OnlyPair p s t ∧
    (p = .bc → t.reg .b = nn.extractLsb' 8 8 ∧ t.reg .c = nn.extractLsb' 0 8) ∧
    (p = .de → t.reg .d = nn.extractLsb' 8 8 ∧ t.reg .e = nn.extractLsb' 0 8) ∧
    (p = .hl → t.reg .h = nn.extractLsb' 8 8 ∧ t.reg .l = nn.extractLsb' 0 8)) ∧
  (∀ s : State, ∃ t, exec .ld_SP_HL s = .next t ∧ encode .ld_SP_HL = [0xF9] ∧
    Passed 1 8 s t ∧ t.regs.sp = s.hl ∧ OnlyPair .sp s t)

/-- LD HL,SP+e and ADD SP,e add the displacement, with flags from the low byte of SP plus the unsigned byte (stated: R223, R311). -/
def Obligations.StackPointerPlusDisplacement : Prop :=
  (∀ (e : Int) (s : State), ∃ t, exec (.ld_HL_SPplusE e) s = .next t ∧
    encode (.ld_HL_SPplusE e) = [0xF8, BitVec.ofInt 8 e] ∧ Passed 2 12 s t ∧
    t.hl = s.regs.sp + BitVec.ofInt 16 e ∧
    FlagsAre t false false (decide (0xF < s.regs.sp.toNat % 16 + (BitVec.ofInt 8 e).toNat % 16))
      (decide (0xFF < s.regs.sp.toNat % 256 + (BitVec.ofInt 8 e).toNat)) ∧ OnlyPairF .hl s t) ∧
  (∀ (e : Int) (s : State), ∃ t, exec (.add_SP_e e) s = .next t ∧
    encode (.add_SP_e e) = [0xE8, BitVec.ofInt 8 e] ∧ Passed 2 16 s t ∧
    t.regs.sp = s.regs.sp + BitVec.ofInt 16 e ∧
    FlagsAre t false false (decide (0xF < s.regs.sp.toNat % 16 + (BitVec.ofInt 8 e).toNat % 16))
      (decide (0xFF < s.regs.sp.toNat % 256 + (BitVec.ofInt 8 e).toNat)) ∧ OnlyPairF .sp s t)

/-- PUSH rr stores the pair below SP, high byte first, and lowers SP by 2 (stated: R224). -/
def Obligations.PushStoresThePair : Prop :=
  (∀ (q : StackReg) (s : State), ∃ t, exec (Instr.pushPair q) s = .next t ∧
    encode (Instr.pushPair q) = [BitVec.ofNat 8 (0xC5 + 16 * q.sel)] ∧ Passed 1 16 s t ∧ OnlyPush (s.stackPair q) s t) ∧
  (∀ s : State, s.stackPair .bc = s.reg .b ++ s.reg .c ∧ s.stackPair .de = s.reg .d ++ s.reg .e ∧
    s.stackPair .hl = s.reg .h ++ s.reg .l ∧ s.stackPair .af = s.reg .a ++ (s.regs.f &&& 0xF0))

/-- POP loads the pair from the stack and raises SP by 2; POP AF drops the low nibble of F (stated: R225, R226). -/
def Obligations.PopLoadsThePair : Prop :=
  (∀ (q : StackReg) (s : State), q ≠ .af → ∃ t, exec (Instr.popPair q) s = .next t ∧
    encode (Instr.popPair q) = [BitVec.ofNat 8 (0xC1 + 16 * q.sel)] ∧ Passed 1 12 s t ∧
    t.stackPair q = s.busRead (s.regs.sp + 1) ++ s.busRead s.regs.sp ∧ t.regs.sp = s.regs.sp + 2 ∧
    SameRegs (stackHalves q) s t ∧ SameF s t ∧ SameOutside s t) ∧
  (∀ s : State, ∃ t, exec .pop_AF s = .next t ∧ encode .pop_AF = [0xF1] ∧ Passed 1 12 s t ∧
    t.reg .a = s.busRead (s.regs.sp + 1) ∧ t.regs.f = s.busRead s.regs.sp &&& 0xF0 ∧
    t.flagZ = (s.busRead s.regs.sp).getLsbD 7 ∧ t.flagN = (s.busRead s.regs.sp).getLsbD 6 ∧
    t.flagH = (s.busRead s.regs.sp).getLsbD 5 ∧ t.flagC = (s.busRead s.regs.sp).getLsbD 4 ∧
    t.regs.sp = s.regs.sp + 2 ∧ SameRegs [.a] s t ∧ SameOutside s t)

/-- On plain storage POP undoes PUSH, and RET returns after CALL (derived: 40_load.md section 1, rule R200, 10_state.md section 1, rule R31,
41_control.md sections 2 and 3). -/
def Obligations.StackRoundTrips : Prop :=
  ∀ s : State, s.mem.wf → s.plainAt (s.regs.sp - 1) → s.plainAt (s.regs.sp - 2) →
    (∀ p q : StackReg, ∃ t u, exec (Instr.pushPair p) s = .next t ∧ exec (Instr.popPair q) t = .next u ∧
      u.stackPair q = (if q = .af then s.stackPair p &&& 0xFFF0 else s.stackPair p) ∧ u.regs.sp = s.regs.sp) ∧
    (∀ nn : Word, ∃ t u, exec (.call_nn nn) s = .next t ∧ t.regs.pc = nn ∧ exec .ret t = .next u ∧
      u.regs.pc = s.regs.pc + 3 ∧ u.regs.sp = s.regs.sp)

/-- JP nn, JP HL and JR e set pc to their target and nothing else (stated: R250, R252, R253). -/
def Obligations.JumpsGoToTheirTarget : Prop :=
  (∀ (nn : Word) (s : State), ∃ t, exec (.jp_nn nn) s = .next t ∧
    encode (.jp_nn nn) = [0xC3, nn.extractLsb' 0 8, nn.extractLsb' 8 8] ∧ Jumped nn 16 s t ∧ OnlyRegs [] s t) ∧
  (∀ s : State, ∃ t, exec .jp_HL s = .next t ∧ encode .jp_HL = [0xE9] ∧ Jumped s.hl 4 s t ∧ OnlyRegs [] s t) ∧
  (∀ (e : Int) (s : State), ∃ t, exec (.jr_e e) s = .next t ∧ encode (.jr_e e) = [0x18, BitVec.ofInt 8 e] ∧
    Jumped (s.regs.pc + 2 + BitVec.ofInt 16 e) 12 s t ∧ OnlyRegs [] s t)

/-- JP cc,nn and JR cc,e jump exactly when their condition holds, for 4 T-cycles more (stated: R154, R251, R254). -/
def Obligations.ConditionalJumps : Prop :=
  (∀ s : State, (s.cond .nz = true ↔ s.flagZ = false) ∧ (s.cond .z = true ↔ s.flagZ = true) ∧
    (s.cond .nc = true ↔ s.flagC = false) ∧ (s.cond .c = true ↔ s.flagC = true)) ∧
  (∀ (cc : Cond) (nn : Word) (s : State), ∃ t, exec (Instr.jpCond cc nn) s = .next t ∧
    encode (Instr.jpCond cc nn) = [BitVec.ofNat 8 (0xC2 + 8 * cc.sel), nn.extractLsb' 0 8, nn.extractLsb' 8 8] ∧
    (s.cond cc = true → Jumped nn 16 s t) ∧ (s.cond cc = false → Passed 3 12 s t) ∧ OnlyRegs [] s t) ∧
  (∀ (cc : Cond) (e : Int) (s : State), ∃ t, exec (Instr.jrCond cc e) s = .next t ∧
    encode (Instr.jrCond cc e) = [BitVec.ofNat 8 (0x20 + 8 * cc.sel), BitVec.ofInt 8 e] ∧
    (s.cond cc = true → Jumped (s.regs.pc + 2 + BitVec.ofInt 16 e) 12 s t) ∧ (s.cond cc = false → Passed 2 8 s t) ∧
    OnlyRegs [] s t)

/-- CALL, CALL cc and RST push the address after themselves and go to their target (stated: R255, R256, R260). -/
def Obligations.CallsPushTheReturnAddress : Prop :=
  (∀ (nn : Word) (s : State), ∃ t, exec (.call_nn nn) s = .next t ∧
    encode (.call_nn nn) = [0xCD, nn.extractLsb' 0 8, nn.extractLsb' 8 8] ∧
    Jumped nn 24 s t ∧ OnlyPush (s.regs.pc + 3) s t) ∧
  (∀ (cc : Cond) (nn : Word) (s : State), ∃ t, exec (Instr.callCond cc nn) s = .next t ∧
    encode (Instr.callCond cc nn) = [BitVec.ofNat 8 (0xC4 + 8 * cc.sel), nn.extractLsb' 0 8, nn.extractLsb' 8 8] ∧
    (s.cond cc = true → Jumped nn 24 s t ∧ OnlyPush (s.regs.pc + 3) s t) ∧
    (s.cond cc = false → Passed 3 12 s t ∧ OnlyRegs [] s t)) ∧
  (∀ (y : Fin 8) (s : State), ∃ t, exec (Instr.rst y) s = .next t ∧
    encode (Instr.rst y) = [BitVec.ofNat 8 (0xC7 + 8 * y.val)] ∧
    Jumped (BitVec.ofNat 16 (8 * y.val)) 16 s t ∧ OnlyPush (s.regs.pc + 1) s t)

/-- RET, RET cc and RETI pop pc; RETI sets IME at once (stated: R257, R258, R259). -/
def Obligations.ReturnsPopThePc : Prop :=
  (∀ s : State, ∃ t, exec .ret s = .next t ∧ encode .ret = [0xC9] ∧ Jumped s.stackTop 16 s t ∧ OnlyPop s t) ∧
  (∀ (cc : Cond) (s : State), ∃ t, exec (Instr.retCond cc) s = .next t ∧
    encode (Instr.retCond cc) = [BitVec.ofNat 8 (0xC0 + 8 * cc.sel)] ∧
    (s.cond cc = true → Jumped s.stackTop 20 s t ∧ OnlyPop s t) ∧
    (s.cond cc = false → Passed 1 8 s t ∧ OnlyRegs [] s t)) ∧
  (∀ s : State, ∃ t, exec .reti s = .next t ∧ encode .reti = [0xD9] ∧ Jumped s.stackTop 16 s t ∧
    t.ime = true ∧ t.eiPending = false ∧ t.regs.sp = s.regs.sp + 2 ∧ SameRegs [] s t ∧ SameF s t ∧
    t.halted = s.halted ∧ t.fault = s.fault ∧ t.totalCycles = s.totalCycles ∧ t.params = s.params ∧
    SameDevices s t ∧ SameMemory s t)

/-- INC r and DEC r step the register, set Z, N and H, and keep C (stated: R280, R281). -/
def Obligations.ByteIncrementAndDecrement : Prop :=
  (∀ (r : Reg8) (s : State), ∃ t, exec (Instr.incReg r) s = .next t ∧
    encode (Instr.incReg r) = [BitVec.ofNat 8 (0x04 + 8 * r.sel)] ∧ Passed 1 4 s t ∧
    (t.reg r).toNat = ((s.reg r).toNat + 1) % 256 ∧
    FlagsAre t (decide ((s.reg r).toNat = 0xFF)) false (decide ((s.reg r).toNat % 16 = 0xF)) s.flagC ∧ OnlyRegsF [r] s t) ∧
  (∀ (r : Reg8) (s : State), ∃ t, exec (Instr.decReg r) s = .next t ∧
    encode (Instr.decReg r) = [BitVec.ofNat 8 (0x05 + 8 * r.sel)] ∧ Passed 1 4 s t ∧
    (t.reg r).toNat = ((s.reg r).toNat + 255) % 256 ∧
    FlagsAre t (decide ((s.reg r).toNat = 1)) true (decide ((s.reg r).toNat % 16 = 0)) s.flagC ∧ OnlyRegsF [r] s t)

/-- INC (HL) and DEC (HL) read the byte at HL once, write the stepped byte once, and keep C (stated: R282, R283). -/
def Obligations.MemoryIncrementAndDecrement : Prop :=
  (∀ s : State, ∃ t w, exec .inc_atHL s = .next t ∧ encode .inc_atHL = [0x34] ∧ Passed 1 12 s t ∧
    w.toNat = ((s.busRead s.hl).toNat + 1) % 256 ∧ OnlyStoreF [] s.hl w s t ∧
    FlagsAre t (decide ((s.busRead s.hl).toNat = 0xFF)) false (decide ((s.busRead s.hl).toNat % 16 = 0xF)) s.flagC) ∧
  (∀ s : State, ∃ t w, exec .dec_atHL s = .next t ∧ encode .dec_atHL = [0x35] ∧ Passed 1 12 s t ∧
    w.toNat = ((s.busRead s.hl).toNat + 255) % 256 ∧ OnlyStoreF [] s.hl w s t ∧
    FlagsAre t (decide ((s.busRead s.hl).toNat = 1)) true (decide ((s.busRead s.hl).toNat % 16 = 0)) s.flagC)

/-- INC rr and DEC rr step the pair or SP and write no flag (stated: R284, R285). -/
def Obligations.PairIncrementAndDecrement : Prop :=
  (∀ (p : Reg16) (s : State), ∃ t, exec (Instr.incPair p) s = .next t ∧
    encode (Instr.incPair p) = [BitVec.ofNat 8 (0x03 + 16 * p.sel)] ∧ Passed 1 8 s t ∧
    (t.pair p).toNat = ((s.pair p).toNat + 1) % 0x10000 ∧ OnlyPair p s t) ∧
  (∀ (p : Reg16) (s : State), ∃ t, exec (Instr.decPair p) s = .next t ∧
    encode (Instr.decPair p) = [BitVec.ofNat 8 (0x0B + 16 * p.sel)] ∧ Passed 1 8 s t ∧
    (t.pair p).toNat = ((s.pair p).toNat + 0xFFFF) % 0x10000 ∧ OnlyPair p s t)

/-- The eight 8-bit operations on A give the result and the flags of their rules, for every operand form (stated: R301, R302, R303, R304, R305, R306,
R307, R308). -/
def Obligations.AluOperationsOnA : Prop :=
  (∀ (op : AluOp) (o : Operand8) (s : State), ∃ t, exec (Instr.alu op o) s = .next t ∧
    encode (Instr.alu op o) = [BitVec.ofNat 8 (0x80 + 8 * op.sel + o.sel)] ∧
    Passed 1 (if o = .atHL then 8 else 4) s t ∧
    AluRule op (s.reg .a).toNat (s.src8 o).toNat s.flagC.toNat (t.reg .a) t ∧ OnlyRegsF [.a] s t) ∧
  (∀ (op : AluOp) (n : Byte) (s : State), ∃ t, exec (Instr.aluImm op n) s = .next t ∧
    encode (Instr.aluImm op n) = [BitVec.ofNat 8 (0xC6 + 8 * op.sel), n] ∧ Passed 2 8 s t ∧
    AluRule op (s.reg .a).toNat n.toNat s.flagC.toNat (t.reg .a) t ∧ OnlyRegsF [.a] s t) ∧
  (∀ (r : Reg8) (s : State), s.src8 (.reg r) = s.reg r ∧ s.src8 .atHL = s.busRead s.hl)

/-- ADD HL,rr adds the pair or SP to HL, with H out of bit 11, C out of bit 15, and Z kept (stated: R310). -/
def Obligations.AddToHL : Prop :=
  ∀ (p : Reg16) (s : State), ∃ t, exec (Instr.addHL p) s = .next t ∧
    encode (Instr.addHL p) = [BitVec.ofNat 8 (0x09 + 16 * p.sel)] ∧ Passed 1 8 s t ∧
    t.hl.toNat = (s.hl.toNat + (s.pair p).toNat) % 0x10000 ∧
    FlagsAre t s.flagZ false (decide (0xFFF < s.hl.toNat % 0x1000 + (s.pair p).toNat % 0x1000))
      (decide (0xFFFF < s.hl.toNat + (s.pair p).toNat)) ∧ OnlyPairF .hl s t

/-- RLCA, RRCA, RLA and RRA rotate A with Z forced to 0 (stated: R330, R331, R332, R333). -/
def Obligations.AccumulatorRotates : Prop :=
  (∀ s : State, ∃ t, exec .rlca s = .next t ∧ encode .rlca = [0x07] ∧ Passed 1 4 s t ∧
    (t.reg .a).toNat = rotRule .rlc (s.reg .a).toNat s.flagC.toNat ∧
    FlagsAre t false false false (rotCarryRule .rlc (s.reg .a).toNat) ∧ OnlyRegsF [.a] s t) ∧
  (∀ s : State, ∃ t, exec .rrca s = .next t ∧ encode .rrca = [0x0F] ∧ Passed 1 4 s t ∧
    (t.reg .a).toNat = rotRule .rrc (s.reg .a).toNat s.flagC.toNat ∧
    FlagsAre t false false false (rotCarryRule .rrc (s.reg .a).toNat) ∧ OnlyRegsF [.a] s t) ∧
  (∀ s : State, ∃ t, exec .rla s = .next t ∧ encode .rla = [0x17] ∧ Passed 1 4 s t ∧
    (t.reg .a).toNat = rotRule .rl (s.reg .a).toNat s.flagC.toNat ∧
    FlagsAre t false false false (rotCarryRule .rl (s.reg .a).toNat) ∧ OnlyRegsF [.a] s t) ∧
  (∀ s : State, ∃ t, exec .rra s = .next t ∧ encode .rra = [0x1F] ∧ Passed 1 4 s t ∧
    (t.reg .a).toNat = rotRule .rr (s.reg .a).toNat s.flagC.toNat ∧
    FlagsAre t false false false (rotCarryRule .rr (s.reg .a).toNat) ∧ OnlyRegsF [.a] s t)

/-- The CB rotates and shifts, on every register and on (HL), give the result and the flags of their rules (stated: R335, R336, R337, R338, R339,
R340, R341, R342). -/
def Obligations.CbRotatesAndShifts : Prop :=
  ∀ (op : RotOp) (o : Operand8) (s : State), ∃ t w, exec (Instr.rot op o) s = .next t ∧
    encode (Instr.rot op o) = [0xCB, BitVec.ofNat 8 (8 * op.sel + o.sel)] ∧
    Passed 2 (if o = .atHL then 16 else 8) s t ∧
    w.toNat = rotRule op (s.src8 o).toNat s.flagC.toNat ∧ WroteOperandF o w s t ∧
    FlagsAre t (decide (rotRule op (s.src8 o).toNat s.flagC.toNat = 0)) false false (rotCarryRule op (s.src8 o).toNat)

/-- BIT, RES and SET test, clear and set the one bit, on every register and on (HL) (stated: R343, R344, R345). -/
def Obligations.BitTestResetAndSet : Prop :=
  (∀ (b : Fin 8) (o : Operand8) (s : State), ∃ t, exec (Instr.bitTest b o) s = .next t ∧
    encode (Instr.bitTest b o) = [0xCB, BitVec.ofNat 8 (0x40 + 8 * b.val + o.sel)] ∧
    Passed 2 (if o = .atHL then 12 else 8) s t ∧
    FlagsAre t (!(s.src8 o).getLsbD b.val) false true s.flagC ∧ OnlyRegsF [] s t) ∧
  (∀ (b : Fin 8) (o : Operand8) (s : State), ∃ t w, exec (Instr.bitReset b o) s = .next t ∧
    encode (Instr.bitReset b o) = [0xCB, BitVec.ofNat 8 (0x80 + 8 * b.val + o.sel)] ∧
    Passed 2 (if o = .atHL then 16 else 8) s t ∧
    (∀ i < 8, w.getLsbD i = if i = b.val then false else (s.src8 o).getLsbD i) ∧ WroteOperandF o w s t ∧ SameF s t) ∧
  (∀ (b : Fin 8) (o : Operand8) (s : State), ∃ t w, exec (Instr.bitSet b o) s = .next t ∧
    encode (Instr.bitSet b o) = [0xCB, BitVec.ofNat 8 (0xC0 + 8 * b.val + o.sel)] ∧
    Passed 2 (if o = .atHL then 16 else 8) s t ∧
    (∀ i < 8, w.getLsbD i = if i = b.val then true else (s.src8 o).getLsbD i) ∧ WroteOperandF o w s t ∧ SameF s t)

/-- NOP does nothing; DI clears IME and ei_pending at once; EI only sets ei_pending (stated: R360, R363, R364). -/
def Obligations.NopAndInterruptEnables : Prop :=
  (∀ s : State, ∃ t, exec .nop s = .next t ∧ encode .nop = [0x00] ∧ Passed 1 4 s t ∧ OnlyRegs [] s t) ∧
  (∀ s : State, ∃ t, exec .di s = .next t ∧ encode .di = [0xF3] ∧ Passed 1 4 s t ∧ t.ime = false ∧ t.eiPending = false ∧
    SameRegs [] s t ∧ SameF s t ∧ SameSp s t ∧ t.halted = s.halted ∧ t.fault = s.fault ∧ t.totalCycles = s.totalCycles ∧
    t.params = s.params ∧ SameDevices s t ∧ SameMemory s t) ∧
  (∀ s : State, ∃ t, exec .ei s = .next t ∧ encode .ei = [0xFB] ∧ Passed 1 4 s t ∧ t.ime = s.ime ∧ t.eiPending = true ∧
    SameRegs [] s t ∧ SameF s t ∧ SameSp s t ∧ t.halted = s.halted ∧ t.fault = s.fault ∧ t.totalCycles = s.totalCycles ∧
    t.params = s.params ∧ SameDevices s t ∧ SameMemory s t) ∧
  (∀ (s u w t : State), s.ready → s.beginStep = .fetch u → u.eiPending = true → exec u.fetchInstr u = .next w →
    w.eiPending = true → step s = .next t → t.ime = true ∧ t.eiPending = false)

/-- HALT sets halted, or faults with IME = 0 and an enabled request pending (stated: R361). -/
def Obligations.HaltEntersOrFaults : Prop :=
  encode .halt = [0x76] ∧
  (∀ s : State, (s.ime = true ∨ s.pending = 0) → ∃ t, exec .halt s = .next t ∧ Passed 1 4 s t ∧ t.halted = true ∧
    SameRegs [] s t ∧ SameF s t ∧ SameSp s t ∧ t.ime = s.ime ∧ t.eiPending = s.eiPending ∧ t.fault = s.fault ∧
    t.totalCycles = s.totalCycles ∧ t.params = s.params ∧ SameDevices s t ∧ SameMemory s t) ∧
  (∀ s : State, s.ime = false → s.pending ≠ 0 → exec .halt s = .fault (.haltBug s.regs.pc)) ∧
  (∀ s : State, s.ready → s.halted = true → s.pending = 0 → ∃ t, step s = .next t ∧ t.halted = true ∧ t.cycles = 4 ∧
    t.regs = s.regs ∧ t.mem = s.mem) ∧
  (∀ (s u : State), s.pending ≠ 0 → s.beginStep = .fetch u → u.halted = false) ∧
  (∀ s : State, s.pending = BitVec.ofNat 5 (s.ie.toNat &&& s.iflag.toNat &&& 0x1F))

/-- STOP and the 11 bytes with no handler always fault, with the byte and its address (stated: R175, R362, R369). -/
def Obligations.StopAndIllegalBytesFault : Prop :=
  (∀ (n : Byte) (s : State), exec (.stop n) s = .fault (.stop s.regs.pc) ∧ encode (.stop n) = [0x10, n]) ∧
  (∀ (i : Instr) (b : Byte) (s : State), i.illegalByte = some b →
    exec i s = .fault (.illegalOpcode b s.regs.pc) ∧ encode i = [b]) ∧
  (∀ b : Byte, (∃ i : Instr, i.illegalByte = some b) ↔
    b ∈ [0xD3#8, 0xDB#8, 0xDD#8, 0xE3#8, 0xE4#8, 0xEB#8, 0xEC#8, 0xED#8, 0xF4#8, 0xFC#8, 0xFD#8]) ∧
  (∀ b : Byte, (∃ i : Instr, i.illegalByte = some b) → ∀ b1 b2, (decodeBytes b b1 b2).illegalByte = some b) ∧
  (∀ b1 b2 : Byte, (decodeBytes 0xCB b1 b2).illegalByte = none)

/-- DAA adjusts A by the rule's pseudocode, for every A and every N, H and C (stated: R365). -/
def Obligations.DecimalAdjust : Prop :=
  ∀ s : State, ∃ t, exec .daa s = .next t ∧ encode .daa = [0x27] ∧ Passed 1 4 s t ∧ OnlyRegsF [.a] s t ∧
    (s.flagN = false →
      (t.reg .a).toNat = ((s.reg .a).toNat + (if s.flagC = true ∨ 0x99 < (s.reg .a).toNat then 0x60 else 0) +
        (if s.flagH = true ∨ 9 < (s.reg .a).toNat % 16 then 0x06 else 0)) % 256 ∧
      FlagsAre t (decide ((t.reg .a).toNat = 0)) false false (decide (s.flagC = true ∨ 0x99 < (s.reg .a).toNat))) ∧
    (s.flagN = true →
      (t.reg .a).toNat = ((s.reg .a).toNat + 512 - (if s.flagC = true then 0x60 else 0) - (if s.flagH = true then 0x06 else 0)) % 256 ∧
      FlagsAre t (decide ((t.reg .a).toNat = 0)) true false s.flagC)

/-- ADD A,n or SUB A,n and then DAA is exact arithmetic on two decimal digits (derived: 45_misc.md section 3, rule R365, 43_alu.md section 2). -/
def Obligations.DecimalArithmeticIsExact : Prop :=
  ∀ (s : State) (x y : Fin 100), s.reg .a = bcd x.val →
    (∃ t u, exec (.add_A_n (bcd y.val)) s = .next t ∧ exec .daa t = .next u ∧
      u.reg .a = bcd ((x.val + y.val) % 100) ∧ u.flagC = decide (100 ≤ x.val + y.val)) ∧
    (∃ t u, exec (.sub_A_n (bcd y.val)) s = .next t ∧ exec .daa t = .next u ∧
      u.reg .a = bcd ((x.val + 100 - y.val) % 100) ∧ u.flagC = decide (x.val < y.val))

/-- CPL complements A and sets N and H; SCF sets C; CCF complements C (stated: R366, R367, R368). -/
def Obligations.ComplementAndCarryFlags : Prop :=
  (∀ s : State, ∃ t, exec .cpl s = .next t ∧ encode .cpl = [0x2F] ∧ Passed 1 4 s t ∧
    (t.reg .a).toNat = 255 - (s.reg .a).toNat ∧ FlagsAre t s.flagZ true true s.flagC ∧ OnlyRegsF [.a] s t) ∧
  (∀ s : State, ∃ t, exec .scf s = .next t ∧ encode .scf = [0x37] ∧ Passed 1 4 s t ∧
    FlagsAre t s.flagZ false false true ∧ OnlyRegsF [] s t) ∧
  (∀ s : State, ∃ t, exec .ccf s = .next t ∧ encode .ccf = [0x3F] ∧ Passed 1 4 s t ∧
    FlagsAre t s.flagZ false false (!s.flagC) ∧ OnlyRegsF [] s t)

/-- A bus read returns the byte of the component that owns the address (stated: R100). -/
def Obligations.BusReadsByTheMap : Prop :=
  ∀ (s : State) (a : Word),
    (a.toNat ≤ 0x7FFF → ∀ c, s.cart = some c → s.busRead a = c.readRom a.toNat) ∧
    (0x8000 ≤ a.toNat → a.toNat ≤ 0x9FFF → s.busRead a =
      if s.params.accessBlocking = .hardware ∧ s.ppu.lcdc.getLsbD 7 = true ∧ s.ppu.mode = .dataTransfer then 0xFF
      else s.mem.read a.toNat) ∧
    (0xA000 ≤ a.toNat → a.toNat ≤ 0xBFFF → ∀ c, s.cart = some c → s.busRead a = c.readRam a.toNat) ∧
    (0xC000 ≤ a.toNat → a.toNat ≤ 0xDFFF → s.busRead a = s.mem.read a.toNat) ∧
    (0xE000 ≤ a.toNat → a.toNat ≤ 0xFDFF → s.busRead a = s.mem.read (a.toNat - 0x2000) ∧ s.busRead a = s.busRead (a - 0x2000)) ∧
    (0xFE00 ≤ a.toNat → a.toNat ≤ 0xFE9F → s.busRead a =
      if s.params.accessBlocking = .hardware ∧ s.ppu.lcdc.getLsbD 7 = true ∧
        (s.ppu.mode = .oamSearch ∨ s.ppu.mode = .dataTransfer) then 0xFF
      else s.mem.read a.toNat) ∧
    (0xFEA0 ≤ a.toNat → a.toNat ≤ 0xFEFF → s.busRead a = 0xFF) ∧
    (0xFF00 ≤ a.toNat → a.toNat ≤ 0xFF7F → s.busRead a = s.ioRead a) ∧
    (0xFF80 ≤ a.toNat → a.toNat ≤ 0xFFFE → s.busRead a = s.mem.read a.toNat) ∧
    (a = 0xFFFF → s.busRead a = s.ie)

/-- Each I/O register reads as the decode table gives it, and every other I/O address reads the internal file (derived: 20_memory.md section 2, rules
R110 and R112, 10_state.md sections 5 to 8). -/
def Obligations.IoRegistersRead : Prop :=
  ∀ s : State,
    s.busRead 0xFF00 = 0xC0 ||| (s.joy.jsel.setWidth 8 <<< 4) |||
      ((if s.joy.jsel.getLsbD 0 then 0x0F else s.joy.jdir.setWidth 8) &&& (if s.joy.jsel.getLsbD 1 then 0x0F else s.joy.jact.setWidth 8)) ∧
    s.busRead 0xFF04 = s.timer.div16.extractLsb' 8 8 ∧ s.busRead 0xFF05 = s.timer.tima ∧ s.busRead 0xFF06 = s.timer.tma ∧
    s.busRead 0xFF07 = 0xF8 ||| s.timer.tac.setWidth 8 ∧ s.busRead 0xFF0F = 0xE0 ||| s.iflag.setWidth 8 ∧
    s.busRead 0xFF40 = s.ppu.lcdc ∧
    s.busRead 0xFF41 = 0x80 ||| (s.ppu.statEnables.setWidth 8 <<< 3) ||| (if s.ppu.ly = s.ppu.lyc then 0x04 else 0) |||
      (match s.ppu.mode with
        | .hblank => 0
        | .vblank => 1
        | .oamSearch => 2
        | .dataTransfer => 3) ∧
    s.busRead 0xFF42 = s.ppu.scy ∧ s.busRead 0xFF43 = s.ppu.scx ∧ s.busRead 0xFF44 = s.ppu.ly ∧ s.busRead 0xFF45 = s.ppu.lyc ∧
    s.busRead 0xFF46 = s.ppu.dma ∧ s.busRead 0xFF47 = s.ppu.bgp ∧ s.busRead 0xFF48 = s.ppu.obp0 ∧ s.busRead 0xFF49 = s.ppu.obp1 ∧
    s.busRead 0xFF4A = s.ppu.wy ∧ s.busRead 0xFF4B = s.ppu.wx ∧
    (∀ a : Word, 0xFF00 ≤ a.toNat → a.toNat ≤ 0xFF7F →
      a ∉ [0xFF00#16, 0xFF04#16, 0xFF05#16, 0xFF06#16, 0xFF07#16, 0xFF0F#16, 0xFF40#16, 0xFF41#16, 0xFF42#16, 0xFF43#16, 0xFF44#16,
        0xFF45#16, 0xFF46#16, 0xFF47#16, 0xFF48#16, 0xFF49#16, 0xFF4A#16, 0xFF4B#16] →
      s.busRead a = s.mem.read a.toNat)

/-- A store to plain storage changes that byte alone; blocked, unusable and IE stores do what the map says (derived: 20_memory.md section 1, rules
R101, R103, R104, R105 and R113, 20_memory.md section 2, rule R112). -/
def Obligations.StoresToPlainStorage : Prop :=
  ∀ (s : State) (a : Word) (v : Byte),
    (s.plainAt a → OnlyMem s (s.busWrite a v) ∧ (s.mem.wf → StoredByte a v s (s.busWrite a v))) ∧
    (0x8000 ≤ a.toNat → a.toNat ≤ 0x9FFF → s.vramBlocked = true → s.busWrite a v = s) ∧
    (0xFE00 ≤ a.toNat → a.toNat ≤ 0xFE9F → s.oamBlocked = true → s.busWrite a v = s) ∧
    (0xFEA0 ≤ a.toNat → a.toNat ≤ 0xFEFF → s.busWrite a v = s) ∧
    (a = 0xFFFF → s.busWrite a v = { s with ie := v }) ∧
    (a.toNat ≤ 0x7FFF ∨ (0xA000 ≤ a.toNat ∧ a.toNat ≤ 0xBFFF) →
      s.busWrite a v = { s with cart := (s.busWrite a v).cart } ∧
      ∀ c, s.cart = some c → ∃ d, (s.busWrite a v).cart = some d ∧ d.image = c.image ∧ d.imageLen = c.imageLen ∧ d.ramSize = c.ramSize)

/-- A write to an I/O register stores its bits and has exactly its side effect (derived: 20_memory.md section 2, rules R110 and R111, 60_exceptions.md
section 4, rules R441, R444 and R445, 60_exceptions.md section 5, rules R458 and R461, 10_state.md sections 5 to 8, rules R41, R42, R44 to R48 and
R51). -/
def Obligations.IoWriteEffects : Prop :=
  ∀ (s : State) (v : Byte),
    s.busWrite 0xFF00 v = { s with joy := { s.joy with jsel := v.extractLsb' 4 2 } } ∧
    s.busWrite 0xFF04 v = { s with timer := { s.timer with div16 := 0 } } ∧
    s.busWrite 0xFF05 v = { s with timer := { s.timer with tima := v, reloadCd := 0 } } ∧
    s.busWrite 0xFF06 v = { s with timer := { s.timer with tma := v } } ∧
    s.busWrite 0xFF07 v = { s with timer := { s.timer with tac := v.setWidth 3, tacc := 0 } } ∧
    s.busWrite 0xFF0F v = { s with iflag := v.setWidth 5 } ∧
    s.busWrite 0xFF41 v = { s with ppu := { s.ppu with statEnables := v.extractLsb' 3 4 } } ∧
    s.busWrite 0xFF42 v = { s with ppu := { s.ppu with scy := v } } ∧
    s.busWrite 0xFF43 v = { s with ppu := { s.ppu with scx := v } } ∧
    s.busWrite 0xFF44 v = s ∧
    s.busWrite 0xFF45 v = { s with ppu := { s.ppu with lyc := v } } ∧
    s.busWrite 0xFF47 v = { s with ppu := { s.ppu with bgp := v } } ∧
    s.busWrite 0xFF48 v = { s with ppu := { s.ppu with obp0 := v } } ∧
    s.busWrite 0xFF49 v = { s with ppu := { s.ppu with obp1 := v } } ∧
    s.busWrite 0xFF4A v = { s with ppu := { s.ppu with wy := v } } ∧
    s.busWrite 0xFF4B v = { s with ppu := { s.ppu with wx := v } } ∧
    (v.getLsbD 7 = s.ppu.lcdc.getLsbD 7 → s.busWrite 0xFF40 v = { s with ppu := { s.ppu with lcdc := v } })

/-- A write to the DMA register copies 160 bytes from v * 256 into OAM, within the write (stated: R120). -/
def Obligations.OamDmaCopies : Prop :=
  ∀ (s : State) (v : Byte), s.mem.wf →
    (∀ i < 160, (s.busWrite 0xFF46 v).mem.read (0xFE00 + i) =
      State.busRead { s with ppu := { s.ppu with dma := v } } (BitVec.ofNat 16 (v.toNat * 256 + i))) ∧
    (∀ x, x < 0xFE00 ∨ 0xFEA0 ≤ x → (s.busWrite 0xFF46 v).mem.read x = s.mem.read x) ∧
    s.busWrite 0xFF46 v = { s with ppu := { s.ppu with dma := v }, mem := (s.busWrite 0xFF46 v).mem }

/-- A ROM-only cartridge reads its image modulo its length and drops every write (stated: R142). -/
def Obligations.RomOnlyCartridge : Prop :=
  (∀ (params : Params) (image : List Byte), 0x150 ≤ image.length → image.getD 0x147 0 = 0x00 → ∃ c,
    Cart.ofImage params image = some c ∧ c.banking = .romOnly ∧ c.imageLen = image.length ∧
    ∀ i < image.length, c.image.read i = image.getD i 0) ∧
  (∀ (s : State) (c : Cart) (a : Word) (v : Byte), s.cart = some c → c.banking = .romOnly →
    (a.toNat ≤ 0x7FFF → s.busRead a = c.image.read (a.toNat % c.imageLen) ∧ s.busWrite a v = s) ∧
    (0xA000 ≤ a.toNat → a.toNat ≤ 0xBFFF → s.busRead a = 0xFF ∧ s.busWrite a v = s) ∧
    (c.imageLen = 0x4000 → a.toNat ≤ 0x3FFF → s.busRead (a + 0x4000) = s.busRead a))

/-- MBC1's registers select the banks its windows read, and gate its save RAM (stated: R143). -/
def Obligations.Mbc1Cartridge : Prop :=
  (∀ (s : State) (c : Cart) (b : Mbc1) (a : Word) (v : Byte), s.cart = some c → c.banking = .mbc1 b →
    (a.toNat ≤ 0x1FFF → s.busWrite a v =
      { s with cart := some { c with banking := .mbc1 { b with ramEn := decide (v.toNat % 16 = 0x0A) } } }) ∧
    (0x2000 ≤ a.toNat → a.toNat ≤ 0x3FFF → s.busWrite a v =
      { s with cart := some { c with banking := .mbc1 { b with bankLo := if v.toNat % 32 = 0 then 1 else BitVec.ofNat 5 (v.toNat % 32) } } }) ∧
    (0x4000 ≤ a.toNat → a.toNat ≤ 0x5FFF → s.busWrite a v =
      { s with cart := some { c with banking := .mbc1 { b with bankHi := BitVec.ofNat 2 (v.toNat % 4) } } }) ∧
    (0x6000 ≤ a.toNat → a.toNat ≤ 0x7FFF → s.busWrite a v =
      { s with cart := some { c with banking := .mbc1 { b with bmode := decide (v.toNat % 2 = 1) } } }) ∧
    (0xA000 ≤ a.toNat → a.toNat ≤ 0xBFFF → s.busWrite a v =
      if b.ramEn = true ∧ 0 < c.ramSize then
        s.mapCart fun c => { c with ram := c.ram.write (((if b.bmode then b.bankHi.toNat else 0) * 0x2000 + (a.toNat - 0xA000)) % c.ramSize) v }
      else s) ∧
    (a.toNat ≤ 0x3FFF → s.busRead a =
      c.image.read (((if b.bmode then 32 * b.bankHi.toNat else 0) * 0x4000 + a.toNat) % c.imageLen)) ∧
    (0x4000 ≤ a.toNat → a.toNat ≤ 0x7FFF → s.busRead a =
      c.image.read (((32 * b.bankHi.toNat + b.bankLo.toNat) * 0x4000 + (a.toNat - 0x4000)) % c.imageLen)) ∧
    (0xA000 ≤ a.toNat → a.toNat ≤ 0xBFFF → s.busRead a =
      if b.ramEn = true ∧ 0 < c.ramSize then
        c.ram.read (((if b.bmode then b.bankHi.toNat else 0) * 0x2000 + (a.toNat - 0xA000)) % c.ramSize)
      else 0xFF) ∧
    c.resetBanks.banking = .mbc1 { ramEn := false, bankLo := 1, bankHi := 0, bmode := false }) ∧
  (∀ (params : Params) (image : List Byte), 0x150 ≤ image.length → image.getD 0x147 0 ∈ [0x01#8, 0x02#8, 0x03#8] → ∃ c,
    Cart.ofImage params image = some c ∧ c.banking = .mbc1 { ramEn := false, bankLo := 1, bankHi := 0, bmode := false })

/-- The divider counts every T-cycle whatever TAC holds, DIV reads its high byte, and any DIV write clears it (stated: R441). -/
def Obligations.DividerFreeRuns : Prop :=
  (∀ (delay c : Nat) (t : Timer), (Timer.advance delay c t).timer.div16.toNat = (t.div16.toNat + c) % 0x10000) ∧
  (∀ (delay : Nat) (t : Timer), ((Timer.advance delay 256 t).timer.div16.extractLsb' 8 8).toNat =
    ((t.div16.extractLsb' 8 8).toNat + 1) % 256) ∧
  (∀ s : State, s.busRead 0xFF04 = s.timer.div16.extractLsb' 8 8) ∧
  (∀ (s : State) (v : Byte), s.busWrite 0xFF04 v = { s with timer := { s.timer with div16 := 0 } })

/-- TIMA ticks once a period while enabled and holds while disabled; an overflow reloads TMA and requests TIMER after the delay (derived:
60_exceptions.md section 4, rules R440, R442, R443 and R445, 10_state.md section 6, rule R42). -/
def Obligations.TimerCountsItsPeriod : Prop :=
  (∀ t : Timer, (t.tac.toNat % 4 = 0 → t.period = 1024) ∧ (t.tac.toNat % 4 = 1 → t.period = 16) ∧ (t.tac.toNat % 4 = 2 → t.period = 64) ∧
    (t.tac.toNat % 4 = 3 → t.period = 256) ∧ t.enabled = t.tac.getLsbD 2) ∧
  (∀ (d c : Nat) (t : Timer), t.enabled = false → t.reloadCd = 0 →
    (Timer.advance d c t).timer.tima = t.tima ∧ (Timer.advance d c t).timer.tacc = t.tacc ∧
    (Timer.advance d c t).request = false) ∧
  (∀ (d c : Nat) (t : Timer), t.enabled = true → t.reloadCd = 0 → t.tacc + c < t.period →
    (Timer.advance d c t).timer.tima = t.tima ∧ (Timer.advance d c t).timer.tacc = t.tacc + c ∧
    (Timer.advance d c t).request = false) ∧
  (∀ (d k : Nat) (t : Timer), t.enabled = true → t.reloadCd = 0 → t.tacc = 0 → t.tima.toNat + k ≤ 0xFF →
    (Timer.advance d (t.period * k) t).timer.tima.toNat = t.tima.toNat + k ∧
    (Timer.advance d (t.period * k) t).timer.tacc = 0 ∧ (Timer.advance d (t.period * k) t).request = false) ∧
  (∀ (d : Nat) (t : Timer), t.enabled = true → t.reloadCd = 0 → t.tima = 0xFF → t.tacc + 1 = t.period → d < t.period →
    (∀ j < d, (Timer.advance d (1 + j) t).timer.tima = 0 ∧ (Timer.advance d (1 + j) t).request = false) ∧
    (Timer.advance d (1 + d) t).timer.tima = t.tma ∧ (Timer.advance d (1 + d) t).request = true ∧
    (Timer.advance d (1 + d) t).timer.reloadCd = 0) ∧
  (∀ (d : Nat) (t : Timer), t.enabled = false → 0 < t.reloadCd →
    (∀ j < t.reloadCd, (Timer.advance d j t).timer.tima = t.tima ∧ (Timer.advance d j t).request = false ∧
      (Timer.advance d j t).timer.reloadCd = t.reloadCd - j) ∧
    (∀ c, t.reloadCd ≤ c → (Timer.advance d c t).timer.tima = t.tma ∧ (Timer.advance d c t).request = true ∧
      (Timer.advance d c t).timer.reloadCd = 0) ∧
    (∀ c, (Timer.advance d c t).timer.tacc = t.tacc)) ∧
  (∀ (s : State) (c : Nat), s.timerAdvance c =
    { s with
      timer := (Timer.advance s.params.timerReloadDelay c s.timer).timer
      iflag := if (Timer.advance s.params.timerReloadDelay c s.timer).request then s.iflag ||| 0b00100#5 else s.iflag })

/-- While the LCD is on, the PPU moves through a 70224-cycle frame in 456-cycle lines, with one VBLANK per frame (derived: 60_exceptions.md section 5,
rules R450 to R456 and R459). -/
def Obligations.FramePositionAdvances : Prop :=
  ∀ (s : State) (c : Nat), s.ppu.Wf → s.ppu.lcdOn = true →
    (s.ppuAdvance c).ppu.framePos = (s.ppu.framePos + c) % 70224 ∧
    (s.ppuAdvance c).ppu.ly.toNat = (s.ppu.framePos + c) % 70224 / 456 ∧
    ((s.ppuAdvance c).ppu.mode = .oamSearch ↔
      (s.ppu.framePos + c) % 70224 / 456 < 144 ∧ (s.ppu.framePos + c) % 456 < 80) ∧
    ((s.ppuAdvance c).ppu.mode = .dataTransfer ↔
      (s.ppu.framePos + c) % 70224 / 456 < 144 ∧ 80 ≤ (s.ppu.framePos + c) % 456 ∧ (s.ppu.framePos + c) % 456 < 252) ∧
    ((s.ppuAdvance c).ppu.mode = .vblank ↔ 144 ≤ (s.ppu.framePos + c) % 70224 / 456) ∧
    ((s.ppuAdvance c).ppu.frameReady = true ↔
      s.ppu.frameReady = true ∨ ∃ m, s.ppu.framePos < 65664 + 70224 * m ∧ 65664 + 70224 * m ≤ s.ppu.framePos + c) ∧
    ((s.ppuAdvance c).iflag.getLsbD 0 = true ↔
      s.iflag.getLsbD 0 = true ∨ ∃ m, s.ppu.framePos < 65664 + 70224 * m ∧ 65664 + 70224 * m ≤ s.ppu.framePos + c)

/-- Switching the LCD off stops the PPU at line 0 in mode 0, and switching it on starts line 0 in mode 2 (stated: R461). -/
def Obligations.LcdSwitchStopsAndStarts : Prop :=
  (∀ (s : State) (v : Byte), s.ppu.lcdc.getLsbD 7 = true → v.getLsbD 7 = false →
    s.busWrite 0xFF40 v = { s with ppu :=
      { s.ppu with lcdc := v, ly := 0, dots := 0, mode := .hblank, wline := 0, winDrawn := false } } ∧
    (s.busWrite 0xFF40 v).busRead 0xFF44 = 0 ∧ (s.busWrite 0xFF40 v).busRead 0xFF41 &&& 0x03 = 0) ∧
  (∀ (s : State) (v : Byte), s.ppu.lcdc.getLsbD 7 = false → v.getLsbD 7 = true →
    s.busWrite 0xFF40 v = { s with ppu :=
      { s.ppu with lcdc := v, ly := 0, dots := 0, mode := .oamSearch, wline := 0, winDrawn := false } }) ∧
  (∀ (s : State) (v : Byte), v.getLsbD 7 = s.ppu.lcdc.getLsbD 7 →
    s.busWrite 0xFF40 v = { s with ppu := { s.ppu with lcdc := v } }) ∧
  (∀ (s : State) (c : Nat), s.ppu.lcdc.getLsbD 7 = false → s.ppuAdvance c = s)

/-- The OAM search keeps the line's first ten visible entries, sorted by X and then by OAM index (stated: R451). -/
def Obligations.OamSearchKeepsTenSprites : Prop :=
  ∀ s : State, s.endOamSearch = { s with ppu := { s.ppu with sprites := s.endOamSearch.ppu.sprites, mode := .dataTransfer } } ∧
    (∀ e ∈ s.endOamSearch.ppu.sprites, ∃ i < 40, e = s.oamEntry i) ∧
    (∀ i, (s.oamEntry i).index = i ∧ (s.oamEntry i).y = s.mem.read (0xFE00 + 4 * i) ∧ (s.oamEntry i).x = s.mem.read (0xFE00 + (4 * i + 1)) ∧
      (s.oamEntry i).tile = s.mem.read (0xFE00 + (4 * i + 2)) ∧ (s.oamEntry i).attr = s.mem.read (0xFE00 + (4 * i + 3))) ∧
    (∀ i < 40, (s.oamEntry i ∈ s.endOamSearch.ppu.sprites ↔
      s.ppu.spriteVisible (s.oamEntry i) = true ∧
        ((List.range i).filter fun j => s.ppu.spriteVisible (s.oamEntry j)).length < 10)) ∧
    (∀ e : Sprite, s.ppu.spriteVisible e = true ↔ (e.y.toNat : Int) - 16 ≤ s.ppu.ly.toNat ∧
      (s.ppu.ly.toNat : Int) < (e.y.toNat : Int) - 16 + (if s.ppu.lcdc.getLsbD 2 then 16 else 8) ∧ e.x ≠ 0 ∧ e.x.toNat < 168) ∧
    s.endOamSearch.ppu.sprites.length ≤ 10 ∧
    s.endOamSearch.ppu.sprites.Pairwise fun a b => a.x.toNat < b.x.toNat ∨ (a.x = b.x ∧ a.index < b.index)

/-- The ends of the modes move the line counters, and request VBLANK and LCD_STATUS exactly at their events (stated: R455, R456, R457). -/
def Obligations.LineEndsAndStatusRequests : Prop :=
  (∀ s : State,
    s.endHblank.ppu.ly = s.ppu.ly + 1 ∧ s.endHblank.ppu.winDrawn = false ∧
    s.endHblank.ppu.wline = (if s.ppu.winDrawn then s.ppu.wline + 1 else s.ppu.wline) ∧
    s.endHblank.ppu.mode = (if s.ppu.ly + 1 = 144 then .vblank else .oamSearch) ∧
    s.endHblank.ppu.frameReady = (s.ppu.frameReady || decide (s.ppu.ly + 1 = 144)) ∧
    s.endHblank.iflag.getLsbD 0 = (s.iflag.getLsbD 0 || decide (s.ppu.ly + 1 = 144)) ∧
    s.endHblank.iflag.getLsbD 1 = (s.iflag.getLsbD 1 || (decide (s.ppu.ly + 1 = s.ppu.lyc) && s.ppu.statEnables.getLsbD 3) ||
      (if s.ppu.ly + 1 = 144 then s.ppu.statEnables.getLsbD 1 else s.ppu.statEnables.getLsbD 2)) ∧
    (∀ k, 2 ≤ k → s.endHblank.iflag.getLsbD k = s.iflag.getLsbD k)) ∧
  (∀ s : State, s.ppu.ly.toNat ≤ 153 →
    s.endVblankLine.ppu.ly = (if s.ppu.ly = 153 then 0 else s.ppu.ly + 1) ∧
    s.endVblankLine.ppu.wline = (if s.ppu.ly = 153 then 0 else s.ppu.wline) ∧
    s.endVblankLine.ppu.mode = (if s.ppu.ly = 153 then .oamSearch else s.ppu.mode) ∧
    s.endVblankLine.ppu.frameReady = s.ppu.frameReady ∧
    s.endVblankLine.iflag.getLsbD 1 = (s.iflag.getLsbD 1 ||
      (decide (s.endVblankLine.ppu.ly = s.ppu.lyc) && s.ppu.statEnables.getLsbD 3) ||
      (decide (s.ppu.ly = 153) && s.ppu.statEnables.getLsbD 2)) ∧
    (∀ k, k ≠ 1 → s.endVblankLine.iflag.getLsbD k = s.iflag.getLsbD k)) ∧
  (∀ s : State, s.endDataTransfer.ppu.mode = .hblank ∧
    s.endDataTransfer.iflag.getLsbD 1 = (s.iflag.getLsbD 1 || s.ppu.statEnables.getLsbD 0) ∧
    (∀ k, k ≠ 1 → s.endDataTransfer.iflag.getLsbD k = s.iflag.getLsbD k)) ∧
  (∀ s : State, s.endOamSearch.iflag = s.iflag ∧ s.endOamSearch.ppu.mode = .dataTransfer)

/-- The end of DATA_TRANSFER writes line LY of the frame buffer alone, from the tile data of the background and the window (derived: 60_exceptions.md
rules R452, R453, R454, R460 and R462, 10_state.md rules R48 and R49). That win_drawn is set once a line, where the window covers one of its 160
pixels, is the model's reading of R453 (DEDUCED, log entry 21). -/
def Obligations.LineRendersBackground : Prop :=
  (∀ (s : State) (y : Nat), y ≠ s.ppu.ly.toNat → s.endDataTransfer.ppu.fb[y]? = s.ppu.fb[y]?) ∧
  (∀ s : State, s.ppu.ly.toNat < s.ppu.fb.length → ∃ row, s.endDataTransfer.ppu.fb[s.ppu.ly.toNat]? = some row ∧ row.length = 160 ∧
    ∀ x < 160, row[x]? = some (s.pixelShade x) ∧ (s.ppu.lcdc.getLsbD 1 = false → row[x]? = some (s.layerShade x))) ∧
  (∀ (p : Ppu) (x : Nat), p.windowCovers x = true ↔
    p.lcdc.getLsbD 0 = true ∧ p.lcdc.getLsbD 5 = true ∧ p.wy.toNat ≤ p.ly.toNat ∧ p.wx.toNat ≤ x + 7) ∧
  (∀ (s : State) (x : Nat), s.ppu.lcdc.getLsbD 0 = false → s.layerIndex x = 0 ∧ s.layerShade x = 0) ∧
  (∀ (s : State) (x px py map t base idx : Nat) (lo hi : Byte), s.ppu.lcdc.getLsbD 0 = true →
    px = (if s.ppu.windowCovers x then x + 7 - s.ppu.wx.toNat else (s.ppu.scx.toNat + x) % 256) →
    py = (if s.ppu.windowCovers x then s.ppu.wline else (s.ppu.scy.toNat + s.ppu.ly.toNat) % 256) →
    map = (if s.ppu.lcdc.getLsbD (if s.ppu.windowCovers x then 6 else 3) then 0x1C00 else 0x1800) →
    t = (s.mem.read (0x8000 + (map + 32 * (py / 8) + px / 8))).toNat →
    base = (if s.ppu.lcdc.getLsbD 4 then 16 * t else if t < 128 then 0x1000 + 16 * t else 16 * t) →
    lo = s.mem.read (0x8000 + (base + 2 * (py % 8))) → hi = s.mem.read (0x8000 + (base + 2 * (py % 8) + 1)) →
    idx = 2 * (hi.getLsbD (7 - px % 8)).toNat + (lo.getLsbD (7 - px % 8)).toNat →
    s.layerIndex x = BitVec.ofNat 2 idx ∧ s.layerShade x = BitVec.ofNat 2 (s.ppu.bgp.toNat / 4 ^ idx)) ∧
  (∀ s : State, (s.endDataTransfer.ppu.winDrawn = true ↔ s.ppu.winDrawn = true ∨ ∃ x < 160, s.ppu.windowCovers x = true) ∧
    s.endDataTransfer.ppu.wline = s.ppu.wline)

/-- The first sprite in priority order with an opaque pixel decides it, from its tile's flipped row, unless it lies behind a background index other
than 0 (derived: 60_exceptions.md rules R452 and R454, 10_state.md rules R48 and R50). A row outside the sprite's height is a free value of the model
(DESIGN CHOICE, log entry 11), of which the statement says nothing. -/
def Obligations.FirstOpaqueSpriteDecides : Prop :=
  (∀ (s : State) (x : Nat) (pre post : List Sprite) (e : Sprite), s.ppu.lcdc.getLsbD 1 = true →
    s.ppu.sprites = pre ++ e :: post → (∀ p ∈ pre, p.covers x = false ∨ s.spriteIndex p x = 0) →
    e.covers x = true → s.spriteIndex e x ≠ 0 →
    s.pixelShade x = if e.attr.getLsbD 7 = true ∧ s.layerIndex x ≠ 0 then s.layerShade x
      else paletteShade (if e.attr.getLsbD 4 then s.ppu.obp1 else s.ppu.obp0) (s.spriteIndex e x)) ∧
  (∀ (s : State) (x : Nat), (s.ppu.lcdc.getLsbD 1 = false ∨ ∀ p ∈ s.ppu.sprites, p.covers x = false ∨ s.spriteIndex p x = 0) →
    s.pixelShade x = s.layerShade x) ∧
  (∀ (s : State) (x : Nat), s.ppu.lcdc.getLsbD 0 = false → s.layerShade x = 0 ∧ s.layerIndex x = 0) ∧
  (∀ (e : Sprite) (x : Nat), e.covers x = true ↔ (e.x.toNat : Int) - 8 ≤ x ∧ x < e.x.toNat) ∧
  (∀ (pal : Byte) (idx : Shade), paletteShade pal idx = BitVec.ofNat 2 (pal.toNat / 4 ^ idx.toNat)) ∧
  (∀ (s : State) (e : Sprite) (x h r row col t : Nat) (lo hi : Byte), e.covers x = true →
    h = (if s.ppu.lcdc.getLsbD 2 then 16 else 8) → (s.ppu.ly.toNat : Int) = (e.y.toNat : Int) - 16 + r → r < h →
    row = (if e.attr.getLsbD 6 then h - 1 - r else r) →
    col = (if e.attr.getLsbD 5 then 7 - (x + 8 - e.x.toNat) else x + 8 - e.x.toNat) →
    t = (if h = 16 then 2 * (e.tile.toNat / 2) + row / 8 else e.tile.toNat) →
    lo = s.mem.read (0x8000 + (16 * t + 2 * (row % 8))) → hi = s.mem.read (0x8000 + (16 * t + 2 * (row % 8) + 1)) →
    s.spriteIndex e x = BitVec.ofNat 2 (2 * (hi.getLsbD (7 - col)).toNat + (lo.getLsbD (7 - col)).toNat))

/-- A press clears and a release sets its button's bit and requests JOYPAD, or changes nothing when repeated (stated: R52, R470, R471). -/
def Obligations.ButtonsChangeTheirBit : Prop :=
  (∀ (s : State) (k : Button),
    (s.press k).joy = s.joy.mapMask k (fun m => m &&& ~~~k.mask) ∧ (s.release k).joy = s.joy.mapMask k (fun m => m ||| k.mask) ∧
    ((s.press k).joy ≠ s.joy → s.press k = { s with joy := (s.press k).joy, iflag := s.iflag ||| 0b10000#5 }) ∧
    ((s.press k).joy = s.joy → s.press k = s) ∧
    ((s.release k).joy ≠ s.joy → s.release k = { s with joy := (s.release k).joy, iflag := s.iflag ||| 0b10000#5 }) ∧
    ((s.release k).joy = s.joy → s.release k = s) ∧
    (s.press k).press k = s.press k ∧ (s.release k).release k = s.release k) ∧
  (∀ s : State,
    (s.press .right).joy = { s.joy with jdir := s.joy.jdir &&& 0b1110#4 } ∧ (s.release .right).joy = { s.joy with jdir := s.joy.jdir ||| 0b0001#4 } ∧
    (s.press .left).joy = { s.joy with jdir := s.joy.jdir &&& 0b1101#4 } ∧ (s.release .left).joy = { s.joy with jdir := s.joy.jdir ||| 0b0010#4 } ∧
    (s.press .up).joy = { s.joy with jdir := s.joy.jdir &&& 0b1011#4 } ∧ (s.release .up).joy = { s.joy with jdir := s.joy.jdir ||| 0b0100#4 } ∧
    (s.press .down).joy = { s.joy with jdir := s.joy.jdir &&& 0b0111#4 } ∧ (s.release .down).joy = { s.joy with jdir := s.joy.jdir ||| 0b1000#4 } ∧
    (s.press .a).joy = { s.joy with jact := s.joy.jact &&& 0b1110#4 } ∧ (s.release .a).joy = { s.joy with jact := s.joy.jact ||| 0b0001#4 } ∧
    (s.press .b).joy = { s.joy with jact := s.joy.jact &&& 0b1101#4 } ∧ (s.release .b).joy = { s.joy with jact := s.joy.jact ||| 0b0010#4 } ∧
    (s.press .select).joy = { s.joy with jact := s.joy.jact &&& 0b1011#4 } ∧ (s.release .select).joy = { s.joy with jact := s.joy.jact ||| 0b0100#4 } ∧
    (s.press .start).joy = { s.joy with jact := s.joy.jact &&& 0b0111#4 } ∧ (s.release .start).joy = { s.joy with jact := s.joy.jact ||| 0b1000#4 }) ∧
  (∀ s t : State, step s = .next t → t.joy.jdir = s.joy.jdir ∧ t.joy.jact = s.joy.jact) ∧
  (∀ s : State, s.hostReset.joy.jdir = 0xF ∧ s.hostReset.joy.jact = 0xF ∧ State.reset.joy.jdir = 0xF ∧ State.reset.joy.jact = 0xF)

/-- take_frame returns and clears the frame-ready signal, and read_fb returns the 23040 shades row by row (stated: R483, R484). -/
def Obligations.FrameSignalAndBuffer : Prop :=
  (∀ s : State, s.takeFrame.2 = s.ppu.frameReady ∧ s.takeFrame.1 = { s with ppu := { s.ppu with frameReady := false } } ∧
    s.takeFrame.1.takeFrame.2 = false) ∧
  (∀ s : State, frameBufferWf s.ppu.fb → s.readFb.length = 23040 ∧
    (∀ x y row, x < 160 → s.ppu.fb[y]? = some row → s.readFb[y * 160 + x]? = row[x]?) ∧
    (∀ (f : Shade → Nat) (i : Nat), (s.pixels f)[i]? = (s.readFb[i]?).map f)) ∧
  (∀ s : State, s.endHblank.ppu.frameReady = (s.ppu.frameReady || decide (s.ppu.ly + 1 = 144)))

/-- step() gives a core step's state and cycles, and run(n) iterates it until n T-cycles are consumed or a fault stops it (derived: 60_exceptions.md
section 7, rules R480, R481 and R485). -/
def Obligations.RunConsumesItsBudget : Prop :=
  (∀ s t : State, step s = .next t → s.hostStep = some (t, t.cycles)) ∧
  (∀ (s : State) (n : Nat), s.cart ≠ none → ∃ t k, s.hostRun n = some (t, k) ∧
    (t.fault = none → n ≤ k) ∧ k < n + 44 ∧ t.totalCycles = s.totalCycles + k ∧ t.cart ≠ none ∧
    (n = 0 ∨ s.fault ≠ none → t = s ∧ k = 0)) ∧
  (∀ (s : State) (n : Nat), s.cart ≠ none → ∃ (m : Nat) (f : Nat → State × Nat), f 0 = (s, 0) ∧
    (∀ i < m, (f i).2 < n ∧ (f i).1.fault = none ∧
      ∃ c, (f i).1.hostStep = some ((f (i + 1)).1, c) ∧ (f (i + 1)).2 = (f i).2 + c) ∧
    (n ≤ (f m).2 ∨ (f m).1.fault ≠ none) ∧ s.hostRun n = some (f m)) ∧
  (∀ (s : State) (n : Nat), s.cart = none → s.hostStep = none ∧ s.hostRun n = none)

/-- A load gives a fresh cartridge and the reset state, or leaves no image loaded (derived: 70_reset_and_hazards.md section 1, rules R503 and R504,
20_memory.md section 6, rules R142, R143, R144 and R146, 60_exceptions.md section 7, rule R485). -/
def Obligations.LoadReplacesTheCartridge : Prop :=
  (∀ (s : State) (image : List Byte), 0x150 ≤ image.length → image.getD 0x147 0 ∈ [0x00#8, 0x01#8, 0x02#8, 0x03#8] → ∃ c,
    s.hostLoad image = (State.hostReset { s with cart := some c }, true) ∧ (s.hostLoad image).1.cart = some c ∧
    c.imageLen = image.length ∧ (∀ i < image.length, c.image.read i = image.getD i 0) ∧ c.resetBanks = c ∧
    (image.getD 0x147 0 = 0x00 → c.banking = .romOnly) ∧
    (image.getD 0x147 0 ≠ 0x00 → c.banking = .mbc1 { ramEn := false, bankLo := 1, bankHi := 0, bmode := false }) ∧
    (image.getD 0x147 0 = 0x00 → c.ramSize = 0) ∧
    (image.getD 0x147 0 ≠ 0x00 →
      (image.getD 0x149 0 = 0 → c.ramSize = 0) ∧ (image.getD 0x149 0 = 1 → c.ramSize = 0x800) ∧
      (image.getD 0x149 0 = 2 → c.ramSize = 0x2000) ∧ (image.getD 0x149 0 = 3 → c.ramSize = 0x8000)) ∧
    (s.params.initSaveRam.wf → ∀ i < c.ramSize, c.ram.read i = s.params.initSaveRam.read i)) ∧
  (∀ (s : State) (image : List Byte),
    image.length < 0x150 ∨ image.getD 0x147 0 ∉ [0x00#8, 0x01#8, 0x02#8, 0x03#8] →
    (s.hostLoad image).2 = false ∧ (s.hostLoad image).1.cart = none ∧ step (s.hostLoad image).1 = .refused .noImageLoaded ∧
    (s.hostLoad image).1.hostStep = none ∧ ∀ n, (s.hostLoad image).1.hostRun n = none)

/-- Reset sets every register to the value of the reset table, keeps the image and the save RAM, and is deterministic (stated: R500). -/
def Obligations.ResetSetsEveryRegister : Prop :=
  (∀ t : State, (t = State.reset ∨ ∃ s : State, t = s.hostReset) →
    t.regs = { a := 0x01, f := 0xB0, b := 0x00, c := 0x13, d := 0x00, e := 0xD8, h := 0x01, l := 0x4D, sp := 0xFFFE, pc := 0x0100 } ∧
    t.ime = false ∧ t.eiPending = false ∧ t.halted = false ∧ t.fault = none ∧ t.ie = 0x00 ∧ t.iflag = 0b00001 ∧
    t.timer = { div16 := 0xABCC, tima := 0x00, tma := 0x00, tac := 0, tacc := 0, reloadCd := 0 } ∧
    t.ppu.lcdc = 0x91 ∧ t.ppu.statEnables = 0 ∧ t.ppu.scy = 0 ∧ t.ppu.scx = 0 ∧ t.ppu.ly = 0 ∧ t.ppu.lyc = 0 ∧ t.ppu.wy = 0 ∧
    t.ppu.wx = 0 ∧ t.ppu.dma = 0xFF ∧ t.ppu.bgp = 0xFC ∧ t.ppu.obp0 = 0xFF ∧ t.ppu.obp1 = 0xFF ∧ t.ppu.mode = .oamSearch ∧
    t.ppu.dots = 0 ∧ t.ppu.wline = 0 ∧ t.ppu.winDrawn = false ∧ t.ppu.sprites = [] ∧ t.ppu.frameReady = false ∧
    (∀ x y, x < 160 → y < 144 → t.readFb[y * 160 + x]? = some 0) ∧
    t.joy = { jsel := 0, jdir := 0xF, jact := 0xF } ∧ t.totalCycles = 0 ∧
    t.busRead 0xFF04 = 0xAB ∧ t.busRead 0xFF07 = 0xF8 ∧ t.busRead 0xFF0F = 0xE1 ∧ t.busRead 0xFF41 = 0x86 ∧ t.busRead 0xFF00 = 0xCF) ∧
  (∀ a, State.reset.mem.read a = 0x00) ∧
  (∀ (s : State) (a : Nat), s.params.initRam.wf →
    s.hostReset.mem.read a = if isRamAddress a then s.params.initRam.read a else 0x00) ∧
  (∀ s : State, s.hostReset.params = s.params ∧ (s.cart = none → s.hostReset.cart = none) ∧
    ∀ c, s.cart = some c → ∃ d, s.hostReset.cart = some d ∧ d.image = c.image ∧ d.imageLen = c.imageLen ∧ d.ram = c.ram ∧
      d.ramSize = c.ramSize ∧ d.banking = c.banking.reset) ∧
  (∀ s t : State, s.params = t.params → s.cart = t.cart → s.hostReset = t.hostReset)
end

