-- ==== Sys2Proof/Laws/Memory.lean ====
section
/-! SUPPORT. The laws of the sparse memory: a read after a write, and that every operation keeps the canonical form. -/

namespace Sys2Proof

theorem Memory.read_cons_self (a : Nat) (v : Byte) (rest : Memory) (h : rest.read a = Memory.unlisted) :
    (Memory.cons a v rest).read a = v := by
  unfold Memory.cons
  split
  · rw [h]; exact (‹v = _›).symm
  · simp [Memory.read]

theorem Memory.read_cons_other (a x : Nat) (v : Byte) (rest : Memory) (h : a ≠ x) :
    (Memory.cons a v rest).read x = rest.read x := by
  unfold Memory.cons
  split
  · rfl
  · simp [Memory.read, h]

/-- An address below every listed one reads as unlisted. -/
theorem Memory.read_below {m : Memory} {a : Nat} (h : ∀ c ∈ m, a < c.1) : m.read a = Memory.unlisted := by
  induction m with
  | nil => rfl
  | cons c rest ih =>
    have h1 := h c (by simp)
    simp only [Memory.read]
    rw [if_neg (by omega)]
    exact ih fun d hd => h d (by simp [hd])

theorem Memory.wf_tail {c : Host.Cell} {m : Memory} (h : Memory.wf (c :: m)) : m.wf :=
  ⟨(List.pairwise_cons.1 h.1).2, fun d hd => h.2 d (by simp [hd])⟩

theorem Memory.mem_cons {a : Nat} {v : Byte} {rest : Memory} {c : Host.Cell} (h : c ∈ Memory.cons a v rest) :
    c = (a, v) ∨ c ∈ rest := by
  unfold Memory.cons at h
  split at h
  · exact .inr h
  · simpa using h

theorem Memory.cons_wf {a : Nat} {v : Byte} {rest : Memory} (h : rest.wf) (hb : ∀ c ∈ rest, a < c.1) :
    (Memory.cons a v rest).wf := by
  unfold Memory.cons
  split
  · exact h
  · next hv => exact ⟨List.pairwise_cons.2 ⟨hb, h.1⟩, by simpa [hv] using h.2⟩

/-- What a write can list: the written cell, or a cell that was listed. -/
theorem Memory.mem_write {m : Memory} {a : Nat} {v : Byte} {c : Host.Cell} (h : c ∈ m.write a v) :
    c = (a, v) ∨ c ∈ m := by
  induction m with
  | nil => exact (Memory.mem_cons h).imp_right fun h => h
  | cons d rest ih =>
    simp only [Memory.write] at h
    split at h
    · exact Memory.mem_cons h
    · split at h
      · exact (Memory.mem_cons h).imp_right fun h => by simp [h]
      · rcases List.mem_cons.1 h with h | h
        · simp [h]
        · exact (ih h).imp_right fun h => by simp [h]

/-- A write keeps the canonical form. -/
theorem Memory.write_wf {m : Memory} (h : m.wf) (a : Nat) (v : Byte) : (m.write a v).wf := by
  induction m with
  | nil => exact Memory.cons_wf h (by simp)
  | cons d rest ih =>
    have hr := Memory.wf_tail h
    have hd := (List.pairwise_cons.1 h.1).1
    simp only [Memory.write]
    split
    · refine Memory.cons_wf h fun c hc => ?_
      rcases List.mem_cons.1 hc with rfl | hc
      · assumption
      · exact lt_trans ‹_› (hd c hc)
    · split
      · next _ he => exact Memory.cons_wf hr fun c hc => he ▸ hd c hc
      · next h1 h2 =>
        refine ⟨List.pairwise_cons.2 ⟨fun c hc => ?_, (ih hr).1⟩, fun c hc => ?_⟩
        · rcases Memory.mem_write hc with rfl | hc
          · show d.1 < a
            omega
          · exact hd c hc
        · rcases List.mem_cons.1 hc with rfl | hc
          · exact h.2 _ (by simp)
          · exact (ih hr).2 c hc

/-- A read of the written address gives the byte written. -/
theorem Memory.read_write_same {m : Memory} (h : m.wf) (a : Nat) (v : Byte) : (m.write a v).read a = v := by
  induction m with
  | nil => exact Memory.read_cons_self a v [] rfl
  | cons d rest ih =>
    have hd := (List.pairwise_cons.1 h.1).1
    simp only [Memory.write]
    split
    · refine Memory.read_cons_self a v _ (Memory.read_below fun c hc => ?_)
      rcases List.mem_cons.1 hc with rfl | hc
      · assumption
      · exact lt_trans ‹_› (hd c hc)
    · split
      · next _ he => exact Memory.read_cons_self a v _ (Memory.read_below fun c hc => he ▸ hd c hc)
      · next h1 h2 =>
        simp only [Memory.read]
        rw [if_neg fun e => h2 e.symm]
        exact ih (Memory.wf_tail h)

/-- A write leaves every other address as it was, in any memory. -/
theorem Memory.read_write_other (m : Memory) {a x : Nat} (v : Byte) (h : a ≠ x) : (m.write a v).read x = m.read x := by
  induction m with
  | nil => exact Memory.read_cons_other a x v [] h
  | cons d rest ih =>
    simp only [Memory.write]
    split
    · exact Memory.read_cons_other a x v _ h
    · split
      · next _ he => simp only [Memory.read_cons_other a x v _ h, Memory.read, if_neg (he ▸ h : d.1 ≠ x)]
      · simp only [Memory.read, ih]

theorem Memory.writeAll_wf {m : Memory} (h : m.wf) (l : List Host.Cell) : (m.writeAll l).wf := by
  induction l generalizing m with
  | nil => exact h
  | cons c rest ih => exact ih (Memory.write_wf h c.1 c.2)

theorem Memory.mem_writeAll {m : Memory} {l : List Host.Cell} {c : Host.Cell} (h : c ∈ m.writeAll l) : c ∈ m ∨ c ∈ l := by
  induction l generalizing m with
  | nil => exact .inl h
  | cons d rest ih =>
    rcases ih h with h | h
    · rcases Memory.mem_write h with rfl | h
      · simp
      · exact .inl h
    · simp [h]

theorem Memory.mem_ofBytes {k : Nat} {l : List Byte} {c : Host.Cell} (h : c ∈ Memory.ofBytes k l) :
    k ≤ c.1 ∧ c.1 < k + l.length := by
  induction l generalizing k with
  | nil => cases h
  | cons v rest ih =>
    rcases Memory.mem_cons h with rfl | h
    · simp
    · have := ih h
      simp only [List.length_cons]
      omega

/-- A byte sequence gives a memory in canonical form. -/
theorem Memory.ofBytes_wf (k : Nat) (l : List Byte) : (Memory.ofBytes k l).wf := by
  induction l generalizing k with
  | nil => exact ⟨List.Pairwise.nil, by simp [Memory.ofBytes]⟩
  | cons v rest ih => exact Memory.cons_wf (ih (k + 1)) fun c hc => by have := Memory.mem_ofBytes hc; omega

/-- A byte sequence's memory reads the sequence's bytes, and what an unlisted address reads as after them. -/
theorem Memory.read_ofBytes (k : Nat) (l : List Byte) (i : Nat) : (Memory.ofBytes k l).read (k + i) = l.getD i Memory.unlisted := by
  induction l generalizing k i with
  | nil => rfl
  | cons v rest ih =>
    cases i with
    | zero => exact Memory.read_cons_self k v _ (Memory.read_below fun c hc => by have := Memory.mem_ofBytes hc; omega)
    | succ i =>
      rw [Memory.ofBytes, Memory.read_cons_other _ _ _ _ (by omega), show k + (i + 1) = k + 1 + i by omega, ih]
      rfl

end Sys2Proof
end

