-- ==== Sys2Proof/Laws/State.lean ====
section
/-! SUPPORT. What each named update leaves in each field of the state: one lemma per field per update. -/

namespace Sys2Proof.Machine

variable (s : State)

@[simp] theorem State.setReg_regs (r : Reg8) (v : Byte) : (s.setReg r v).regs = s.regs.set r v := rfl
@[simp] theorem State.setReg_ime (r : Reg8) (v : Byte) : (s.setReg r v).ime = s.ime := rfl
@[simp] theorem State.setReg_eiPending (r : Reg8) (v : Byte) : (s.setReg r v).eiPending = s.eiPending := rfl
@[simp] theorem State.setReg_halted (r : Reg8) (v : Byte) : (s.setReg r v).halted = s.halted := rfl
@[simp] theorem State.setReg_fault (r : Reg8) (v : Byte) : (s.setReg r v).fault = s.fault := rfl
@[simp] theorem State.setReg_ie (r : Reg8) (v : Byte) : (s.setReg r v).ie = s.ie := rfl
@[simp] theorem State.setReg_iflag (r : Reg8) (v : Byte) : (s.setReg r v).iflag = s.iflag := rfl
@[simp] theorem State.setReg_timer (r : Reg8) (v : Byte) : (s.setReg r v).timer = s.timer := rfl
@[simp] theorem State.setReg_ppu (r : Reg8) (v : Byte) : (s.setReg r v).ppu = s.ppu := rfl
@[simp] theorem State.setReg_joy (r : Reg8) (v : Byte) : (s.setReg r v).joy = s.joy := rfl
@[simp] theorem State.setReg_mem (r : Reg8) (v : Byte) : (s.setReg r v).mem = s.mem := rfl
@[simp] theorem State.setReg_cart (r : Reg8) (v : Byte) : (s.setReg r v).cart = s.cart := rfl
@[simp] theorem State.setReg_cycles (r : Reg8) (v : Byte) : (s.setReg r v).cycles = s.cycles := rfl
@[simp] theorem State.setReg_totalCycles (r : Reg8) (v : Byte) : (s.setReg r v).totalCycles = s.totalCycles := rfl
@[simp] theorem State.setReg_params (r : Reg8) (v : Byte) : (s.setReg r v).params = s.params := rfl

@[simp] theorem State.setPair_regs (p : Reg16) (v : Word) : (s.setPair p v).regs = s.regs.setPair p v := rfl
@[simp] theorem State.setPair_ime (p : Reg16) (v : Word) : (s.setPair p v).ime = s.ime := rfl
@[simp] theorem State.setPair_eiPending (p : Reg16) (v : Word) : (s.setPair p v).eiPending = s.eiPending := rfl
@[simp] theorem State.setPair_halted (p : Reg16) (v : Word) : (s.setPair p v).halted = s.halted := rfl
@[simp] theorem State.setPair_fault (p : Reg16) (v : Word) : (s.setPair p v).fault = s.fault := rfl
@[simp] theorem State.setPair_ie (p : Reg16) (v : Word) : (s.setPair p v).ie = s.ie := rfl
@[simp] theorem State.setPair_iflag (p : Reg16) (v : Word) : (s.setPair p v).iflag = s.iflag := rfl
@[simp] theorem State.setPair_timer (p : Reg16) (v : Word) : (s.setPair p v).timer = s.timer := rfl
@[simp] theorem State.setPair_ppu (p : Reg16) (v : Word) : (s.setPair p v).ppu = s.ppu := rfl
@[simp] theorem State.setPair_joy (p : Reg16) (v : Word) : (s.setPair p v).joy = s.joy := rfl
@[simp] theorem State.setPair_mem (p : Reg16) (v : Word) : (s.setPair p v).mem = s.mem := rfl
@[simp] theorem State.setPair_cart (p : Reg16) (v : Word) : (s.setPair p v).cart = s.cart := rfl
@[simp] theorem State.setPair_cycles (p : Reg16) (v : Word) : (s.setPair p v).cycles = s.cycles := rfl
@[simp] theorem State.setPair_totalCycles (p : Reg16) (v : Word) : (s.setPair p v).totalCycles = s.totalCycles := rfl
@[simp] theorem State.setPair_params (p : Reg16) (v : Word) : (s.setPair p v).params = s.params := rfl

@[simp] theorem State.setPc_regs (v : Word) : (s.setPc v).regs = { s.regs with pc := v } := rfl
@[simp] theorem State.setPc_ime (v : Word) : (s.setPc v).ime = s.ime := rfl
@[simp] theorem State.setPc_eiPending (v : Word) : (s.setPc v).eiPending = s.eiPending := rfl
@[simp] theorem State.setPc_halted (v : Word) : (s.setPc v).halted = s.halted := rfl
@[simp] theorem State.setPc_fault (v : Word) : (s.setPc v).fault = s.fault := rfl
@[simp] theorem State.setPc_ie (v : Word) : (s.setPc v).ie = s.ie := rfl
@[simp] theorem State.setPc_iflag (v : Word) : (s.setPc v).iflag = s.iflag := rfl
@[simp] theorem State.setPc_timer (v : Word) : (s.setPc v).timer = s.timer := rfl
@[simp] theorem State.setPc_ppu (v : Word) : (s.setPc v).ppu = s.ppu := rfl
@[simp] theorem State.setPc_joy (v : Word) : (s.setPc v).joy = s.joy := rfl
@[simp] theorem State.setPc_mem (v : Word) : (s.setPc v).mem = s.mem := rfl
@[simp] theorem State.setPc_cart (v : Word) : (s.setPc v).cart = s.cart := rfl
@[simp] theorem State.setPc_cycles (v : Word) : (s.setPc v).cycles = s.cycles := rfl
@[simp] theorem State.setPc_totalCycles (v : Word) : (s.setPc v).totalCycles = s.totalCycles := rfl
@[simp] theorem State.setPc_params (v : Word) : (s.setPc v).params = s.params := rfl

@[simp] theorem State.setSp_regs (v : Word) : (s.setSp v).regs = { s.regs with sp := v } := rfl
@[simp] theorem State.setSp_ime (v : Word) : (s.setSp v).ime = s.ime := rfl
@[simp] theorem State.setSp_eiPending (v : Word) : (s.setSp v).eiPending = s.eiPending := rfl
@[simp] theorem State.setSp_halted (v : Word) : (s.setSp v).halted = s.halted := rfl
@[simp] theorem State.setSp_fault (v : Word) : (s.setSp v).fault = s.fault := rfl
@[simp] theorem State.setSp_ie (v : Word) : (s.setSp v).ie = s.ie := rfl
@[simp] theorem State.setSp_iflag (v : Word) : (s.setSp v).iflag = s.iflag := rfl
@[simp] theorem State.setSp_timer (v : Word) : (s.setSp v).timer = s.timer := rfl
@[simp] theorem State.setSp_ppu (v : Word) : (s.setSp v).ppu = s.ppu := rfl
@[simp] theorem State.setSp_joy (v : Word) : (s.setSp v).joy = s.joy := rfl
@[simp] theorem State.setSp_mem (v : Word) : (s.setSp v).mem = s.mem := rfl
@[simp] theorem State.setSp_cart (v : Word) : (s.setSp v).cart = s.cart := rfl
@[simp] theorem State.setSp_cycles (v : Word) : (s.setSp v).cycles = s.cycles := rfl
@[simp] theorem State.setSp_totalCycles (v : Word) : (s.setSp v).totalCycles = s.totalCycles := rfl
@[simp] theorem State.setSp_params (v : Word) : (s.setSp v).params = s.params := rfl

@[simp] theorem State.setFlags_regs (z n h c : Bool) : (s.setFlags z n h c).regs = { s.regs with f := packFlags z n h c } := rfl
@[simp] theorem State.setFlags_ime (z n h c : Bool) : (s.setFlags z n h c).ime = s.ime := rfl
@[simp] theorem State.setFlags_eiPending (z n h c : Bool) : (s.setFlags z n h c).eiPending = s.eiPending := rfl
@[simp] theorem State.setFlags_halted (z n h c : Bool) : (s.setFlags z n h c).halted = s.halted := rfl
@[simp] theorem State.setFlags_fault (z n h c : Bool) : (s.setFlags z n h c).fault = s.fault := rfl
@[simp] theorem State.setFlags_ie (z n h c : Bool) : (s.setFlags z n h c).ie = s.ie := rfl
@[simp] theorem State.setFlags_iflag (z n h c : Bool) : (s.setFlags z n h c).iflag = s.iflag := rfl
@[simp] theorem State.setFlags_timer (z n h c : Bool) : (s.setFlags z n h c).timer = s.timer := rfl
@[simp] theorem State.setFlags_ppu (z n h c : Bool) : (s.setFlags z n h c).ppu = s.ppu := rfl
@[simp] theorem State.setFlags_joy (z n h c : Bool) : (s.setFlags z n h c).joy = s.joy := rfl
@[simp] theorem State.setFlags_mem (z n h c : Bool) : (s.setFlags z n h c).mem = s.mem := rfl
@[simp] theorem State.setFlags_cart (z n h c : Bool) : (s.setFlags z n h c).cart = s.cart := rfl
@[simp] theorem State.setFlags_cycles (z n h c : Bool) : (s.setFlags z n h c).cycles = s.cycles := rfl
@[simp] theorem State.setFlags_totalCycles (z n h c : Bool) : (s.setFlags z n h c).totalCycles = s.totalCycles := rfl
@[simp] theorem State.setFlags_params (z n h c : Bool) : (s.setFlags z n h c).params = s.params := rfl

@[simp] theorem State.addCycles_regs (n : Nat) : (s.addCycles n).regs = s.regs := rfl
@[simp] theorem State.addCycles_ime (n : Nat) : (s.addCycles n).ime = s.ime := rfl
@[simp] theorem State.addCycles_eiPending (n : Nat) : (s.addCycles n).eiPending = s.eiPending := rfl
@[simp] theorem State.addCycles_halted (n : Nat) : (s.addCycles n).halted = s.halted := rfl
@[simp] theorem State.addCycles_fault (n : Nat) : (s.addCycles n).fault = s.fault := rfl
@[simp] theorem State.addCycles_ie (n : Nat) : (s.addCycles n).ie = s.ie := rfl
@[simp] theorem State.addCycles_iflag (n : Nat) : (s.addCycles n).iflag = s.iflag := rfl
@[simp] theorem State.addCycles_timer (n : Nat) : (s.addCycles n).timer = s.timer := rfl
@[simp] theorem State.addCycles_ppu (n : Nat) : (s.addCycles n).ppu = s.ppu := rfl
@[simp] theorem State.addCycles_joy (n : Nat) : (s.addCycles n).joy = s.joy := rfl
@[simp] theorem State.addCycles_mem (n : Nat) : (s.addCycles n).mem = s.mem := rfl
@[simp] theorem State.addCycles_cart (n : Nat) : (s.addCycles n).cart = s.cart := rfl
@[simp] theorem State.addCycles_cycles (n : Nat) : (s.addCycles n).cycles = s.cycles + n := rfl
@[simp] theorem State.addCycles_totalCycles (n : Nat) : (s.addCycles n).totalCycles = s.totalCycles := rfl
@[simp] theorem State.addCycles_params (n : Nat) : (s.addCycles n).params = s.params := rfl

@[simp] theorem State.pass_regs (len cost : Nat) : (s.pass len cost).regs = { s.regs with pc := s.regs.pc + BitVec.ofNat 16 len } := rfl
@[simp] theorem State.pass_ime (len cost : Nat) : (s.pass len cost).ime = s.ime := rfl
@[simp] theorem State.pass_eiPending (len cost : Nat) : (s.pass len cost).eiPending = s.eiPending := rfl
@[simp] theorem State.pass_halted (len cost : Nat) : (s.pass len cost).halted = s.halted := rfl
@[simp] theorem State.pass_fault (len cost : Nat) : (s.pass len cost).fault = s.fault := rfl
@[simp] theorem State.pass_ie (len cost : Nat) : (s.pass len cost).ie = s.ie := rfl
@[simp] theorem State.pass_iflag (len cost : Nat) : (s.pass len cost).iflag = s.iflag := rfl
@[simp] theorem State.pass_timer (len cost : Nat) : (s.pass len cost).timer = s.timer := rfl
@[simp] theorem State.pass_ppu (len cost : Nat) : (s.pass len cost).ppu = s.ppu := rfl
@[simp] theorem State.pass_joy (len cost : Nat) : (s.pass len cost).joy = s.joy := rfl
@[simp] theorem State.pass_mem (len cost : Nat) : (s.pass len cost).mem = s.mem := rfl
@[simp] theorem State.pass_cart (len cost : Nat) : (s.pass len cost).cart = s.cart := rfl
@[simp] theorem State.pass_cycles (len cost : Nat) : (s.pass len cost).cycles = s.cycles + cost := rfl
@[simp] theorem State.pass_totalCycles (len cost : Nat) : (s.pass len cost).totalCycles = s.totalCycles := rfl
@[simp] theorem State.pass_params (len cost : Nat) : (s.pass len cost).params = s.params := rfl

@[simp] theorem State.request_regs (k : IrqSource) : (s.request k).regs = s.regs := rfl
@[simp] theorem State.request_ime (k : IrqSource) : (s.request k).ime = s.ime := rfl
@[simp] theorem State.request_eiPending (k : IrqSource) : (s.request k).eiPending = s.eiPending := rfl
@[simp] theorem State.request_halted (k : IrqSource) : (s.request k).halted = s.halted := rfl
@[simp] theorem State.request_fault (k : IrqSource) : (s.request k).fault = s.fault := rfl
@[simp] theorem State.request_ie (k : IrqSource) : (s.request k).ie = s.ie := rfl
@[simp] theorem State.request_iflag (k : IrqSource) : (s.request k).iflag = s.iflag ||| k.mask := rfl
@[simp] theorem State.request_timer (k : IrqSource) : (s.request k).timer = s.timer := rfl
@[simp] theorem State.request_ppu (k : IrqSource) : (s.request k).ppu = s.ppu := rfl
@[simp] theorem State.request_joy (k : IrqSource) : (s.request k).joy = s.joy := rfl
@[simp] theorem State.request_mem (k : IrqSource) : (s.request k).mem = s.mem := rfl
@[simp] theorem State.request_cart (k : IrqSource) : (s.request k).cart = s.cart := rfl
@[simp] theorem State.request_cycles (k : IrqSource) : (s.request k).cycles = s.cycles := rfl
@[simp] theorem State.request_totalCycles (k : IrqSource) : (s.request k).totalCycles = s.totalCycles := rfl
@[simp] theorem State.request_params (k : IrqSource) : (s.request k).params = s.params := rfl

@[simp] theorem State.poke_regs (a : Nat) (v : Byte) : (s.poke a v).regs = s.regs := rfl
@[simp] theorem State.poke_ime (a : Nat) (v : Byte) : (s.poke a v).ime = s.ime := rfl
@[simp] theorem State.poke_eiPending (a : Nat) (v : Byte) : (s.poke a v).eiPending = s.eiPending := rfl
@[simp] theorem State.poke_halted (a : Nat) (v : Byte) : (s.poke a v).halted = s.halted := rfl
@[simp] theorem State.poke_fault (a : Nat) (v : Byte) : (s.poke a v).fault = s.fault := rfl
@[simp] theorem State.poke_ie (a : Nat) (v : Byte) : (s.poke a v).ie = s.ie := rfl
@[simp] theorem State.poke_iflag (a : Nat) (v : Byte) : (s.poke a v).iflag = s.iflag := rfl
@[simp] theorem State.poke_timer (a : Nat) (v : Byte) : (s.poke a v).timer = s.timer := rfl
@[simp] theorem State.poke_ppu (a : Nat) (v : Byte) : (s.poke a v).ppu = s.ppu := rfl
@[simp] theorem State.poke_joy (a : Nat) (v : Byte) : (s.poke a v).joy = s.joy := rfl
@[simp] theorem State.poke_mem (a : Nat) (v : Byte) : (s.poke a v).mem = s.mem.write a v := rfl
@[simp] theorem State.poke_cart (a : Nat) (v : Byte) : (s.poke a v).cart = s.cart := rfl
@[simp] theorem State.poke_cycles (a : Nat) (v : Byte) : (s.poke a v).cycles = s.cycles := rfl
@[simp] theorem State.poke_totalCycles (a : Nat) (v : Byte) : (s.poke a v).totalCycles = s.totalCycles := rfl
@[simp] theorem State.poke_params (a : Nat) (v : Byte) : (s.poke a v).params = s.params := rfl

@[simp] theorem State.mapCart_regs (f : Cart → Cart) : (s.mapCart f).regs = s.regs := rfl
@[simp] theorem State.mapCart_ime (f : Cart → Cart) : (s.mapCart f).ime = s.ime := rfl
@[simp] theorem State.mapCart_eiPending (f : Cart → Cart) : (s.mapCart f).eiPending = s.eiPending := rfl
@[simp] theorem State.mapCart_halted (f : Cart → Cart) : (s.mapCart f).halted = s.halted := rfl
@[simp] theorem State.mapCart_fault (f : Cart → Cart) : (s.mapCart f).fault = s.fault := rfl
@[simp] theorem State.mapCart_ie (f : Cart → Cart) : (s.mapCart f).ie = s.ie := rfl
@[simp] theorem State.mapCart_iflag (f : Cart → Cart) : (s.mapCart f).iflag = s.iflag := rfl
@[simp] theorem State.mapCart_timer (f : Cart → Cart) : (s.mapCart f).timer = s.timer := rfl
@[simp] theorem State.mapCart_ppu (f : Cart → Cart) : (s.mapCart f).ppu = s.ppu := rfl
@[simp] theorem State.mapCart_joy (f : Cart → Cart) : (s.mapCart f).joy = s.joy := rfl
@[simp] theorem State.mapCart_mem (f : Cart → Cart) : (s.mapCart f).mem = s.mem := rfl
@[simp] theorem State.mapCart_cart (f : Cart → Cart) : (s.mapCart f).cart = s.cart.map f := rfl
@[simp] theorem State.mapCart_cycles (f : Cart → Cart) : (s.mapCart f).cycles = s.cycles := rfl
@[simp] theorem State.mapCart_totalCycles (f : Cart → Cart) : (s.mapCart f).totalCycles = s.totalCycles := rfl
@[simp] theorem State.mapCart_params (f : Cart → Cart) : (s.mapCart f).params = s.params := rfl

@[simp] theorem State.mapPpu_regs (f : Ppu → Ppu) : (s.mapPpu f).regs = s.regs := rfl
@[simp] theorem State.mapPpu_ime (f : Ppu → Ppu) : (s.mapPpu f).ime = s.ime := rfl
@[simp] theorem State.mapPpu_eiPending (f : Ppu → Ppu) : (s.mapPpu f).eiPending = s.eiPending := rfl
@[simp] theorem State.mapPpu_halted (f : Ppu → Ppu) : (s.mapPpu f).halted = s.halted := rfl
@[simp] theorem State.mapPpu_fault (f : Ppu → Ppu) : (s.mapPpu f).fault = s.fault := rfl
@[simp] theorem State.mapPpu_ie (f : Ppu → Ppu) : (s.mapPpu f).ie = s.ie := rfl
@[simp] theorem State.mapPpu_iflag (f : Ppu → Ppu) : (s.mapPpu f).iflag = s.iflag := rfl
@[simp] theorem State.mapPpu_timer (f : Ppu → Ppu) : (s.mapPpu f).timer = s.timer := rfl
@[simp] theorem State.mapPpu_ppu (f : Ppu → Ppu) : (s.mapPpu f).ppu = f s.ppu := rfl
@[simp] theorem State.mapPpu_joy (f : Ppu → Ppu) : (s.mapPpu f).joy = s.joy := rfl
@[simp] theorem State.mapPpu_mem (f : Ppu → Ppu) : (s.mapPpu f).mem = s.mem := rfl
@[simp] theorem State.mapPpu_cart (f : Ppu → Ppu) : (s.mapPpu f).cart = s.cart := rfl
@[simp] theorem State.mapPpu_cycles (f : Ppu → Ppu) : (s.mapPpu f).cycles = s.cycles := rfl
@[simp] theorem State.mapPpu_totalCycles (f : Ppu → Ppu) : (s.mapPpu f).totalCycles = s.totalCycles := rfl
@[simp] theorem State.mapPpu_params (f : Ppu → Ppu) : (s.mapPpu f).params = s.params := rfl

@[simp] theorem State.mapTimer_regs (f : Timer → Timer) : (s.mapTimer f).regs = s.regs := rfl
@[simp] theorem State.mapTimer_ime (f : Timer → Timer) : (s.mapTimer f).ime = s.ime := rfl
@[simp] theorem State.mapTimer_eiPending (f : Timer → Timer) : (s.mapTimer f).eiPending = s.eiPending := rfl
@[simp] theorem State.mapTimer_halted (f : Timer → Timer) : (s.mapTimer f).halted = s.halted := rfl
@[simp] theorem State.mapTimer_fault (f : Timer → Timer) : (s.mapTimer f).fault = s.fault := rfl
@[simp] theorem State.mapTimer_ie (f : Timer → Timer) : (s.mapTimer f).ie = s.ie := rfl
@[simp] theorem State.mapTimer_iflag (f : Timer → Timer) : (s.mapTimer f).iflag = s.iflag := rfl
@[simp] theorem State.mapTimer_timer (f : Timer → Timer) : (s.mapTimer f).timer = f s.timer := rfl
@[simp] theorem State.mapTimer_ppu (f : Timer → Timer) : (s.mapTimer f).ppu = s.ppu := rfl
@[simp] theorem State.mapTimer_joy (f : Timer → Timer) : (s.mapTimer f).joy = s.joy := rfl
@[simp] theorem State.mapTimer_mem (f : Timer → Timer) : (s.mapTimer f).mem = s.mem := rfl
@[simp] theorem State.mapTimer_cart (f : Timer → Timer) : (s.mapTimer f).cart = s.cart := rfl
@[simp] theorem State.mapTimer_cycles (f : Timer → Timer) : (s.mapTimer f).cycles = s.cycles := rfl
@[simp] theorem State.mapTimer_totalCycles (f : Timer → Timer) : (s.mapTimer f).totalCycles = s.totalCycles := rfl
@[simp] theorem State.mapTimer_params (f : Timer → Timer) : (s.mapTimer f).params = s.params := rfl

@[simp] theorem State.setMode_regs (m : PpuMode) : (s.setMode m).regs = s.regs := rfl
@[simp] theorem State.setMode_ime (m : PpuMode) : (s.setMode m).ime = s.ime := rfl
@[simp] theorem State.setMode_eiPending (m : PpuMode) : (s.setMode m).eiPending = s.eiPending := rfl
@[simp] theorem State.setMode_halted (m : PpuMode) : (s.setMode m).halted = s.halted := rfl
@[simp] theorem State.setMode_fault (m : PpuMode) : (s.setMode m).fault = s.fault := rfl
@[simp] theorem State.setMode_ie (m : PpuMode) : (s.setMode m).ie = s.ie := rfl
@[simp] theorem State.setMode_iflag (m : PpuMode) : (s.setMode m).iflag = s.iflag := rfl
@[simp] theorem State.setMode_timer (m : PpuMode) : (s.setMode m).timer = s.timer := rfl
@[simp] theorem State.setMode_ppu (m : PpuMode) : (s.setMode m).ppu = { s.ppu with mode := m } := rfl
@[simp] theorem State.setMode_joy (m : PpuMode) : (s.setMode m).joy = s.joy := rfl
@[simp] theorem State.setMode_mem (m : PpuMode) : (s.setMode m).mem = s.mem := rfl
@[simp] theorem State.setMode_cart (m : PpuMode) : (s.setMode m).cart = s.cart := rfl
@[simp] theorem State.setMode_cycles (m : PpuMode) : (s.setMode m).cycles = s.cycles := rfl
@[simp] theorem State.setMode_totalCycles (m : PpuMode) : (s.setMode m).totalCycles = s.totalCycles := rfl
@[simp] theorem State.setMode_params (m : PpuMode) : (s.setMode m).params = s.params := rfl

@[simp] theorem State.setStackPair_ime (q : StackReg) (v : Word) : (s.setStackPair q v).ime = s.ime := by cases q <;> rfl
@[simp] theorem State.setStackPair_eiPending (q : StackReg) (v : Word) : (s.setStackPair q v).eiPending = s.eiPending := by cases q <;> rfl
@[simp] theorem State.setStackPair_halted (q : StackReg) (v : Word) : (s.setStackPair q v).halted = s.halted := by cases q <;> rfl
@[simp] theorem State.setStackPair_fault (q : StackReg) (v : Word) : (s.setStackPair q v).fault = s.fault := by cases q <;> rfl
@[simp] theorem State.setStackPair_ie (q : StackReg) (v : Word) : (s.setStackPair q v).ie = s.ie := by cases q <;> rfl
@[simp] theorem State.setStackPair_iflag (q : StackReg) (v : Word) : (s.setStackPair q v).iflag = s.iflag := by cases q <;> rfl
@[simp] theorem State.setStackPair_timer (q : StackReg) (v : Word) : (s.setStackPair q v).timer = s.timer := by cases q <;> rfl
@[simp] theorem State.setStackPair_ppu (q : StackReg) (v : Word) : (s.setStackPair q v).ppu = s.ppu := by cases q <;> rfl
@[simp] theorem State.setStackPair_joy (q : StackReg) (v : Word) : (s.setStackPair q v).joy = s.joy := by cases q <;> rfl
@[simp] theorem State.setStackPair_mem (q : StackReg) (v : Word) : (s.setStackPair q v).mem = s.mem := by cases q <;> rfl
@[simp] theorem State.setStackPair_cart (q : StackReg) (v : Word) : (s.setStackPair q v).cart = s.cart := by cases q <;> rfl
@[simp] theorem State.setStackPair_cycles (q : StackReg) (v : Word) : (s.setStackPair q v).cycles = s.cycles := by cases q <;> rfl
@[simp] theorem State.setStackPair_totalCycles (q : StackReg) (v : Word) : (s.setStackPair q v).totalCycles = s.totalCycles := by cases q <;> rfl
@[simp] theorem State.setStackPair_params (q : StackReg) (v : Word) : (s.setStackPair q v).params = s.params := by cases q <;> rfl

@[simp] theorem State.requestStat_regs (k : Nat) : (s.requestStat k).regs = s.regs := by unfold State.requestStat; split <;> rfl
@[simp] theorem State.requestStat_ime (k : Nat) : (s.requestStat k).ime = s.ime := by unfold State.requestStat; split <;> rfl
@[simp] theorem State.requestStat_eiPending (k : Nat) : (s.requestStat k).eiPending = s.eiPending := by unfold State.requestStat; split <;> rfl
@[simp] theorem State.requestStat_halted (k : Nat) : (s.requestStat k).halted = s.halted := by unfold State.requestStat; split <;> rfl
@[simp] theorem State.requestStat_fault (k : Nat) : (s.requestStat k).fault = s.fault := by unfold State.requestStat; split <;> rfl
@[simp] theorem State.requestStat_ie (k : Nat) : (s.requestStat k).ie = s.ie := by unfold State.requestStat; split <;> rfl
@[simp] theorem State.requestStat_timer (k : Nat) : (s.requestStat k).timer = s.timer := by unfold State.requestStat; split <;> rfl
@[simp] theorem State.requestStat_ppu (k : Nat) : (s.requestStat k).ppu = s.ppu := by unfold State.requestStat; split <;> rfl
@[simp] theorem State.requestStat_joy (k : Nat) : (s.requestStat k).joy = s.joy := by unfold State.requestStat; split <;> rfl
@[simp] theorem State.requestStat_mem (k : Nat) : (s.requestStat k).mem = s.mem := by unfold State.requestStat; split <;> rfl
@[simp] theorem State.requestStat_cart (k : Nat) : (s.requestStat k).cart = s.cart := by unfold State.requestStat; split <;> rfl
@[simp] theorem State.requestStat_cycles (k : Nat) : (s.requestStat k).cycles = s.cycles := by unfold State.requestStat; split <;> rfl
@[simp] theorem State.requestStat_totalCycles (k : Nat) : (s.requestStat k).totalCycles = s.totalCycles := by unfold State.requestStat; split <;> rfl
@[simp] theorem State.requestStat_params (k : Nat) : (s.requestStat k).params = s.params := by unfold State.requestStat; split <;> rfl
@[simp] theorem State.lycCheck_regs : s.lycCheck.regs = s.regs := by unfold State.lycCheck; split <;> simp
@[simp] theorem State.lycCheck_ime : s.lycCheck.ime = s.ime := by unfold State.lycCheck; split <;> simp
@[simp] theorem State.lycCheck_eiPending : s.lycCheck.eiPending = s.eiPending := by unfold State.lycCheck; split <;> simp
@[simp] theorem State.lycCheck_halted : s.lycCheck.halted = s.halted := by unfold State.lycCheck; split <;> simp
@[simp] theorem State.lycCheck_fault : s.lycCheck.fault = s.fault := by unfold State.lycCheck; split <;> simp
@[simp] theorem State.lycCheck_ie : s.lycCheck.ie = s.ie := by unfold State.lycCheck; split <;> simp
@[simp] theorem State.lycCheck_timer : s.lycCheck.timer = s.timer := by unfold State.lycCheck; split <;> simp
@[simp] theorem State.lycCheck_ppu : s.lycCheck.ppu = s.ppu := by unfold State.lycCheck; split <;> simp
@[simp] theorem State.lycCheck_joy : s.lycCheck.joy = s.joy := by unfold State.lycCheck; split <;> simp
@[simp] theorem State.lycCheck_mem : s.lycCheck.mem = s.mem := by unfold State.lycCheck; split <;> simp
@[simp] theorem State.lycCheck_cart : s.lycCheck.cart = s.cart := by unfold State.lycCheck; split <;> simp
@[simp] theorem State.lycCheck_cycles : s.lycCheck.cycles = s.cycles := by unfold State.lycCheck; split <;> simp
@[simp] theorem State.lycCheck_totalCycles : s.lycCheck.totalCycles = s.totalCycles := by unfold State.lycCheck; split <;> simp
@[simp] theorem State.lycCheck_params : s.lycCheck.params = s.params := by unfold State.lycCheck; split <;> simp

/-! Reads of a register through the updates of the register file. -/

@[simp] theorem State.setReg_reg (r r' : Reg8) (v : Byte) : (s.setReg r v).reg r' = if r' = r then v else s.reg r' := by
  cases r <;> cases r' <;> rfl

@[simp] theorem Regs.set_pc (g : Regs) (r : Reg8) (v : Byte) : (g.set r v).pc = g.pc := by cases r <;> rfl
@[simp] theorem Regs.set_sp (g : Regs) (r : Reg8) (v : Byte) : (g.set r v).sp = g.sp := by cases r <;> rfl
@[simp] theorem Regs.set_f (g : Regs) (r : Reg8) (v : Byte) : (g.set r v).f = g.f := by cases r <;> rfl
@[simp] theorem Regs.setPair_pc (g : Regs) (p : Reg16) (v : Word) : (g.setPair p v).pc = g.pc := by cases p <;> rfl
@[simp] theorem Regs.setPair_f (g : Regs) (p : Reg16) (v : Word) : (g.setPair p v).f = g.f := by cases p <;> rfl
theorem Regs.setPair_sp (g : Regs) (p : Reg16) (v : Word) : (g.setPair p v).sp = if p = .sp then v else g.sp := by
  cases p <;> rfl

@[simp] theorem State.pass_reg (len cost : Nat) (r : Reg8) : (s.pass len cost).reg r = s.reg r := by cases r <;> rfl
@[simp] theorem State.setPc_reg (v : Word) (r : Reg8) : (s.setPc v).reg r = s.reg r := by cases r <;> rfl
@[simp] theorem State.setSp_reg (v : Word) (r : Reg8) : (s.setSp v).reg r = s.reg r := by cases r <;> rfl
@[simp] theorem State.setFlags_reg (z n h c : Bool) (r : Reg8) : (s.setFlags z n h c).reg r = s.reg r := by cases r <;> rfl
@[simp] theorem State.addCycles_reg (n : Nat) (r : Reg8) : (s.addCycles n).reg r = s.reg r := by cases r <;> rfl
@[simp] theorem State.pass_pair (len cost : Nat) (p : Reg16) : (s.pass len cost).pair p = s.pair p := by cases p <;> rfl
@[simp] theorem State.pass_hl (len cost : Nat) : (s.pass len cost).hl = s.hl := rfl
@[simp] theorem State.setFlags_pair (z n h c : Bool) (p : Reg16) : (s.setFlags z n h c).pair p = s.pair p := by cases p <;> rfl
@[simp] theorem State.pass_stackPair (len cost : Nat) (q : StackReg) : (s.pass len cost).stackPair q = s.stackPair q := by cases q <;> rfl
@[simp] theorem State.pass_cond (len cost : Nat) (cc : Cond) : (s.pass len cost).cond cc = s.cond cc := by cases cc <;> rfl
@[simp] theorem State.pass_flagZ (len cost : Nat) : (s.pass len cost).flagZ = s.flagZ := rfl
@[simp] theorem State.pass_flagN (len cost : Nat) : (s.pass len cost).flagN = s.flagN := rfl
@[simp] theorem State.pass_flagH (len cost : Nat) : (s.pass len cost).flagH = s.flagH := rfl
@[simp] theorem State.pass_flagC (len cost : Nat) : (s.pass len cost).flagC = s.flagC := rfl

/-! The two halves of a word, and the flags of a packed F. -/

@[simp] theorem hiByte_mkWord (hi lo : Byte) : hiByte (mkWord hi lo) = hi := by
  apply BitVec.eq_of_getLsbD_eq
  intro i hi'
  refine (BitVec.getLsbD_extractLsb' ..).trans ?_
  simp only [hi', decide_true, Bool.true_and]
  exact (BitVec.getLsbD_append (x := hi) (y := lo) (i := 8 + i)).trans (by simp)

@[simp] theorem loByte_mkWord (hi lo : Byte) : loByte (mkWord hi lo) = lo := by
  apply BitVec.eq_of_getLsbD_eq
  intro i hi'
  refine (BitVec.getLsbD_extractLsb' ..).trans ?_
  simp only [hi', decide_true, Bool.true_and]
  exact (BitVec.getLsbD_append (x := hi) (y := lo) (i := 0 + i)).trans (by simp [hi'])

@[simp] theorem mkWord_bytes (w : Word) : mkWord (hiByte w) (loByte w) = w := by
  unfold hiByte loByte mkWord
  ext i hi
  simp only [BitVec.getElem_append, BitVec.getElem_extractLsb']
  split
  · simp [BitVec.getLsbD_eq_getElem hi]
  · simp [show 8 + (i - 8) = i by omega, BitVec.getLsbD_eq_getElem hi]

theorem packFlags_bits (z n h c : Bool) :
    bitOf (packFlags z n h c) 7 = z ∧ bitOf (packFlags z n h c) 6 = n ∧ bitOf (packFlags z n h c) 5 = h ∧
      bitOf (packFlags z n h c) 4 = c ∧ packFlags z n h c &&& 0x0F = 0 := by
  cases z <;> cases n <;> cases h <;> cases c <;> decide

@[simp] theorem State.setFlags_flagZ (z n h c : Bool) : (s.setFlags z n h c).flagZ = z := (packFlags_bits z n h c).1
@[simp] theorem State.setFlags_flagN (z n h c : Bool) : (s.setFlags z n h c).flagN = n := (packFlags_bits z n h c).2.1
@[simp] theorem State.setFlags_flagH (z n h c : Bool) : (s.setFlags z n h c).flagH = h := (packFlags_bits z n h c).2.2.1
@[simp] theorem State.setFlags_flagC (z n h c : Bool) : (s.setFlags z n h c).flagC = c := (packFlags_bits z n h c).2.2.2.1

/-- A pair reads back what was written to it (10_state R31). -/
@[simp] theorem State.setPair_pair_same (p : Reg16) (v : Word) : (s.setPair p v).pair p = v := by
  cases p
  · exact mkWord_bytes v
  · exact mkWord_bytes v
  · exact mkWord_bytes v
  · rfl

end Sys2Proof.Machine
end

