-- ==== Sys2Proof/Laws/Bus.lean ====
section
/-! SUPPORT. The laws of the bus: the ranges of the address map, what a write leaves alone, and a read after a write to plain storage. -/

namespace Sys2Proof.Machine

/-- The addresses of each range (20_memory R100): the first, and the one after the last. -/
def Region.range : Region → Nat × Nat
  | .rom => (0x0000, 0x8000)
  | .vram => (0x8000, 0xA000)
  | .saveRam => (0xA000, 0xC000)
  | .wram => (0xC000, 0xE000)
  | .echo => (0xE000, 0xFE00)
  | .oam => (0xFE00, 0xFEA0)
  | .unusable => (0xFEA0, 0xFF00)
  | .io => (0xFF00, 0xFF80)
  | .hram => (0xFF80, 0xFFFF)
  | .ie => (0xFFFF, 0x10000)

/-- An address lies in its region's range. -/
theorem regionOf_range (a : Word) : (regionOf a).range.1 ≤ a.toNat ∧ a.toNat < (regionOf a).range.2 := by
  have := a.isLt
  unfold regionOf
  split_ifs <;> simp only [Region.range] <;> omega

/-- The ranges do not overlap: an address of a region's range is in that region. -/
theorem regionOf_eq {r : Region} {a : Word} (h1 : r.range.1 ≤ a.toNat) (h2 : a.toNat < r.range.2) : regionOf a = r := by
  have h := regionOf_range a
  generalize regionOf a = q at h ⊢
  cases q <;> cases r <;> simp only [Region.range] at h h1 h2 <;> first | rfl | omega

/-- What a projection must satisfy to be untouched by every bus write. -/
structure BusKeeps {α : Type} (f : State → α) : Prop where
  mem : ∀ s m, f { s with mem := m } = f s
  cart : ∀ s c, f { s with cart := c } = f s
  ppu : ∀ s p, f { s with ppu := p } = f s
  timer : ∀ s t, f { s with timer := t } = f s
  joySelect : ∀ s b, f { s with joy := { s.joy with jsel := b } } = f s
  iflag : ∀ s i, f { s with iflag := i } = f s
  ie : ∀ s i, f { s with ie := i } = f s

/-- OAM DMA writes the store only (20_memory R120). -/
theorem State.dmaCopy_keeps {α : Type} (f : State → α) (hf : ∀ s m, f { s with mem := m } = f s) (base n k : Nat) (s : State) :
    f (State.dmaCopy base n k s) = f s := by
  induction n generalizing k s with
  | zero => rfl
  | succ n ih => rw [State.dmaCopy, ih, State.poke, hf]

/-- What an I/O write leaves alone (20_memory R110). -/
theorem State.ioWrite_keeps {α : Type} (f : State → α) (hf : BusKeeps f) (s : State) (a : Word) (v : Byte) :
    f (s.ioWrite a v) = f s := by
  unfold State.ioWrite
  cases ioRegOf a <;> dsimp only
  case dma => rw [State.dmaWrite, State.dmaCopy_keeps f hf.mem, State.mapPpu, hf.ppu]
  case p1 => exact hf.joySelect _ _
  case div => exact hf.timer _ _
  case tima => exact hf.timer _ _
  case tma => exact hf.timer _ _
  case tac => exact hf.timer _ _
  case iflag => exact hf.iflag _ _
  case file => exact hf.mem _ _
  all_goals exact hf.ppu _ _

/-- What a bus write leaves alone: everything but the device registers, the store and the cartridge (20_memory R101). -/
theorem State.busWrite_keeps {α : Type} (f : State → α) (hf : BusKeeps f) (s : State) (a : Word) (v : Byte) :
    f (s.busWrite a v) = f s := by
  unfold State.busWrite
  cases regionOf a <;> dsimp only
  case rom => exact hf.cart _ _
  case vram =>
    split
    · rfl
    · exact hf.mem _ _
  case saveRam => exact hf.cart _ _
  case oam =>
    split
    · rfl
    · exact hf.mem _ _
  case io => exact State.ioWrite_keeps f hf s a v
  case ie => exact hf.ie _ _
  all_goals exact hf.mem _ _

section
variable (s : State) (a : Word) (v : Byte)
@[simp] theorem State.busWrite_regs : (s.busWrite a v).regs = s.regs := State.busWrite_keeps (·.regs) (by constructor <;> intros <;> rfl) s a v
@[simp] theorem State.busWrite_ime : (s.busWrite a v).ime = s.ime := State.busWrite_keeps (·.ime) (by constructor <;> intros <;> rfl) s a v
@[simp] theorem State.busWrite_eiPending : (s.busWrite a v).eiPending = s.eiPending := State.busWrite_keeps (·.eiPending) (by constructor <;> intros <;> rfl) s a v
@[simp] theorem State.busWrite_halted : (s.busWrite a v).halted = s.halted := State.busWrite_keeps (·.halted) (by constructor <;> intros <;> rfl) s a v
@[simp] theorem State.busWrite_fault : (s.busWrite a v).fault = s.fault := State.busWrite_keeps (·.fault) (by constructor <;> intros <;> rfl) s a v
@[simp] theorem State.busWrite_cycles : (s.busWrite a v).cycles = s.cycles := State.busWrite_keeps (·.cycles) (by constructor <;> intros <;> rfl) s a v
@[simp] theorem State.busWrite_totalCycles : (s.busWrite a v).totalCycles = s.totalCycles := State.busWrite_keeps (·.totalCycles) (by constructor <;> intros <;> rfl) s a v
@[simp] theorem State.busWrite_params : (s.busWrite a v).params = s.params := State.busWrite_keeps (·.params) (by constructor <;> intros <;> rfl) s a v
/-- No bus write changes a button mask (60_exceptions R470). -/
theorem State.busWrite_joyMasks : ((s.busWrite a v).joy.jdir, (s.busWrite a v).joy.jact) = (s.joy.jdir, s.joy.jact) :=
  State.busWrite_keeps (fun s => (s.joy.jdir, s.joy.jact)) (by constructor <;> intros <;> rfl) s a v
@[simp] theorem State.busWrite_reg (r : Reg8) : (s.busWrite a v).reg r = s.reg r := by cases r <;> simp [State.reg]
@[simp] theorem State.busWrite_pair (p : Reg16) : (s.busWrite a v).pair p = s.pair p := by cases p <;> simp [State.pair]
@[simp] theorem State.busWrite_hl : (s.busWrite a v).hl = s.hl := State.busWrite_pair s a v .hl
@[simp] theorem State.busWrite_flagZ : (s.busWrite a v).flagZ = s.flagZ := by simp [State.flagZ]
@[simp] theorem State.busWrite_flagN : (s.busWrite a v).flagN = s.flagN := by simp [State.flagN]
@[simp] theorem State.busWrite_flagH : (s.busWrite a v).flagH = s.flagH := by simp [State.flagH]
@[simp] theorem State.busWrite_flagC : (s.busWrite a v).flagC = s.flagC := by simp [State.flagC]

/-- A cartridge is in the slot after a bus write exactly when one was before it. -/
theorem State.busWrite_cart_isSome : (s.busWrite a v).cart.isSome = s.cart.isSome := by
  unfold State.busWrite
  cases regionOf a <;> dsimp only
  case vram => split <;> rfl
  case oam => split <;> rfl
  case io =>
    unfold State.ioWrite
    cases ioRegOf a <;> dsimp only
    case dma => rw [State.dmaWrite, State.dmaCopy_keeps (fun s => s.cart.isSome) fun _ _ => rfl]; rfl
    all_goals rfl
  case rom => exact Option.isSome_map
  case saveRam => exact Option.isSome_map
  all_goals rfl
end

/-- What the bus reads depends on the devices, the store, the cartridge and the parameters alone (20_memory R100). -/
theorem State.busRead_congr {s t : State} (h : SameDevices s t) (hp : t.params = s.params) : SameMemory s t := by
  obtain ⟨h1, h2, h3, h4, h5, h6, h7⟩ := h
  cases s
  cases t
  dsimp only at *
  subst h1 h2 h3 h4 h5 h6 h7 hp
  exact fun _ => rfl

@[simp] theorem State.busRead_setReg (s : State) (r : Reg8) (v : Byte) (a : Word) : (s.setReg r v).busRead a = s.busRead a :=
  State.busRead_congr (s := s) ⟨rfl, rfl, rfl, rfl, rfl, rfl, rfl⟩ rfl a
@[simp] theorem State.busRead_setPair (s : State) (p : Reg16) (v : Word) (a : Word) : (s.setPair p v).busRead a = s.busRead a :=
  State.busRead_congr (s := s) ⟨rfl, rfl, rfl, rfl, rfl, rfl, rfl⟩ rfl a
@[simp] theorem State.busRead_setSp (s : State) (v : Word) (a : Word) : (s.setSp v).busRead a = s.busRead a :=
  State.busRead_congr (s := s) ⟨rfl, rfl, rfl, rfl, rfl, rfl, rfl⟩ rfl a
@[simp] theorem State.busRead_setPc (s : State) (v : Word) (a : Word) : (s.setPc v).busRead a = s.busRead a :=
  State.busRead_congr (s := s) ⟨rfl, rfl, rfl, rfl, rfl, rfl, rfl⟩ rfl a
@[simp] theorem State.busRead_setFlags (s : State) (z n h c : Bool) (a : Word) : (s.setFlags z n h c).busRead a = s.busRead a :=
  State.busRead_congr (s := s) ⟨rfl, rfl, rfl, rfl, rfl, rfl, rfl⟩ rfl a
@[simp] theorem State.busRead_addCycles (s : State) (n : Nat) (a : Word) : (s.addCycles n).busRead a = s.busRead a :=
  State.busRead_congr (s := s) ⟨rfl, rfl, rfl, rfl, rfl, rfl, rfl⟩ rfl a
@[simp] theorem State.busRead_pass (s : State) (len cost : Nat) (a : Word) : (s.pass len cost).busRead a = s.busRead a :=
  State.busRead_congr (s := s) ⟨rfl, rfl, rfl, rfl, rfl, rfl, rfl⟩ rfl a
@[simp] theorem State.src8_pass (s : State) (len cost : Nat) (o : Operand8) : (s.pass len cost).src8 o = s.src8 o := by
  cases o with
  | reg r => exact State.pass_reg s len cost r
  | atHL => exact State.busRead_pass s len cost s.hl

/-- The storage of an address of the echo is 0x2000 below it; every other address is its own (20_memory R103). -/
theorem storageOf_toNat (a : Word) :
    (storageOf a).toNat = if regionOf a = .echo then a.toNat - 0x2000 else a.toNat := by
  unfold storageOf
  by_cases h : regionOf a = .echo
  · rw [if_pos h, if_pos h]
    have hr := regionOf_range a
    rw [h] at hr
    simp only [Region.range] at hr
    rw [BitVec.toNat_sub_of_le]
    · rfl
    · rw [BitVec.le_def]; exact le_trans (by decide) hr.1
  · rw [if_neg h, if_neg h]

theorem storageOf_of_ne {a : Word} {r : Region} (h : regionOf a = r) (hr : r ≠ .echo) : (storageOf a).toNat = a.toNat := by
  rw [storageOf_toNat, if_neg (h ▸ hr)]

theorem storageOf_of_echo {a : Word} (h : regionOf a = .echo) : (storageOf a).toNat = a.toNat - 0x2000 := by
  rw [storageOf_toNat, if_pos h]

/-- A store to plain storage writes the storage's own address (20_memory R101, R103). -/
theorem State.busWrite_plain {s : State} {a : Word} (h : s.plainAt a) (v : Byte) :
    s.busWrite a v = s.poke (storageOf a).toNat v := by
  unfold State.plainAt at h
  unfold State.busWrite
  cases hreg : regionOf a <;> rw [hreg] at h <;> dsimp only at h ⊢
  case vram => simp only [h, Bool.false_eq_true, if_false, storageOf_of_ne hreg nofun]
  case wram => rw [storageOf_of_ne hreg nofun]
  case echo => rw [storageOf_of_echo hreg]
  case oam => simp only [h, Bool.false_eq_true, if_false, storageOf_of_ne hreg nofun]
  case io => unfold State.ioWrite; simp only [h, storageOf_of_ne hreg nofun]
  case hram => rw [storageOf_of_ne hreg nofun]

/-- The byte the bus reads at an address of plain storage is the storage's own (20_memory R100, R103). -/
theorem State.busRead_plain {s : State} {a : Word} (h : s.plainAt a) : s.busRead a = s.mem.read (storageOf a).toNat := by
  unfold State.plainAt at h
  unfold State.busRead
  cases hreg : regionOf a <;> rw [hreg] at h <;> dsimp only at h ⊢
  case vram => simp only [h, Bool.false_eq_true, if_false, storageOf_of_ne hreg nofun]
  case wram => rw [storageOf_of_ne hreg nofun]
  case echo => rw [storageOf_of_echo hreg]
  case oam => simp only [h, Bool.false_eq_true, if_false, storageOf_of_ne hreg nofun]
  case io => unfold State.ioRead; simp only [h, storageOf_of_ne hreg nofun]
  case hram => rw [storageOf_of_ne hreg nofun]

/-- A poke of the store changes no byte whose storage is elsewhere. -/
theorem State.busRead_poke (s : State) (a : Nat) (v : Byte) (x : Word) (hx : (storageOf x).toNat ≠ a) :
    (s.poke a v).busRead x = s.busRead x := by
  have hread : ∀ k, k ≠ a → (s.poke a v).mem.read k = s.mem.read k := fun k hk => Memory.read_write_other _ v (Ne.symm hk)
  have hv : (s.poke a v).vramBlocked = s.vramBlocked := rfl
  have ho : (s.poke a v).oamBlocked = s.oamBlocked := rfl
  unfold State.busRead
  cases hreg : regionOf x <;> dsimp only
  case vram => rw [storageOf_of_ne hreg nofun] at hx; rw [hread _ hx, hv]
  case wram => rw [storageOf_of_ne hreg nofun] at hx; rw [hread _ hx]
  case echo => rw [storageOf_of_echo hreg] at hx; rw [hread _ hx]
  case oam => rw [storageOf_of_ne hreg nofun] at hx; rw [hread _ hx, ho]
  case io =>
    rw [storageOf_of_ne hreg nofun] at hx
    unfold State.ioRead
    cases ioRegOf x <;> dsimp only
    case file => rw [hread _ hx]
    all_goals rfl
  case hram => rw [storageOf_of_ne hreg nofun] at hx; rw [hread _ hx]
  all_goals rfl

/-- Two addresses with one storage are both plain or neither is. -/
theorem State.plainAt_of_storage {s : State} {a x : Word} (h : s.plainAt a) (hx : storageOf x = storageOf a) : s.plainAt x := by
  by_cases he : x = a
  · exact he ▸ h
  have h1 := congrArg BitVec.toNat hx
  have hax := regionOf_range a
  have hxx := regionOf_range x
  have hne : x.toNat ≠ a.toNat := fun e => he (BitVec.eq_of_toNat_eq e)
  rw [storageOf_toNat, storageOf_toNat] at h1
  unfold State.plainAt at *
  by_cases hxe : regionOf x = .echo
  · rw [hxe]; trivial
  · rw [if_neg hxe] at h1
    by_cases hae : regionOf a = .echo
    · rw [if_pos hae] at h1
      rw [hae] at hax
      have : regionOf x = .wram := regionOf_eq (by simp only [Region.range] at *; omega) (by simp only [Region.range] at *; omega)
      rw [this]; trivial
    · rw [if_neg hae] at h1
      exact absurd h1 hne

/-- A store to plain storage: the bytes of that storage read the byte stored, every other address reads as before. -/
theorem State.busWrite_stored {s : State} (hm : s.mem.wf) {a : Word} (h : s.plainAt a) (v : Byte) :
    StoredByte a v s (s.busWrite a v) := by
  intro x
  rw [State.busWrite_plain h]
  split
  · next hx =>
    have hp : s.plainAt x := State.plainAt_of_storage h hx
    have hp' : (s.poke (storageOf a).toNat v).plainAt x := hp
    rw [State.busRead_plain hp', hx]
    exact Memory.read_write_same hm _ v
  · next hx => exact State.busRead_poke s _ v x fun e => hx (BitVec.eq_of_toNat_eq e)

/-! Every memory operation keeps the canonical form of the store. -/

theorem State.poke_mem_wf {s : State} (h : s.mem.wf) (a : Nat) (v : Byte) : (s.poke a v).mem.wf := Memory.write_wf h a v

theorem State.dmaCopy_mem_wf {s : State} (h : s.mem.wf) (base n k : Nat) : (State.dmaCopy base n k s).mem.wf := by
  induction n generalizing k s with
  | zero => exact h
  | succ n ih => exact ih (State.poke_mem_wf h _ _) _

theorem State.busWrite_mem_wf {s : State} (h : s.mem.wf) (a : Word) (v : Byte) : (s.busWrite a v).mem.wf := by
  unfold State.busWrite
  cases regionOf a <;> dsimp only
  case vram =>
    split
    · exact h
    · exact State.poke_mem_wf h _ _
  case wram => exact State.poke_mem_wf h _ _
  case echo => exact State.poke_mem_wf h _ _
  case oam =>
    split
    · exact h
    · exact State.poke_mem_wf h _ _
  case io =>
    unfold State.ioWrite
    cases ioRegOf a <;> dsimp only
    case dma =>
      refine State.dmaCopy_mem_wf ?_ _ _ _
      exact h
    case file => exact State.poke_mem_wf h _ _
    all_goals exact h
  case hram => exact State.poke_mem_wf h _ _
  all_goals exact h

/-- The store after reset is in canonical form: nothing is listed. -/
theorem State.reset_mem_wf : State.reset.mem.wf := ⟨List.Pairwise.nil, by simp [State.reset, State.resetWith]⟩

end Sys2Proof.Machine
end

