-- ==== Sys2Proof/Laws/Devices.lean ====
section
/-! SUPPORT. The laws of the timer and the PPU: what their advance leaves alone, that it keeps their ranges, what the PPU
reads, and the loop of its advance. -/

namespace Sys2Proof.Machine

open Sys2Proof

/-! The timer (60_exceptions R440 to R445). -/

theorem Timer.period_pos (t : Timer) : 0 < t.period := by unfold Timer.period; split <;> decide

theorem Timer.reloadStep_frame (t : Timer) :
    (Timer.reloadStep t).timer.div16 = t.div16 ∧ (Timer.reloadStep t).timer.tma = t.tma ∧ (Timer.reloadStep t).timer.tac = t.tac ∧
      (Timer.reloadStep t).timer.tacc = t.tacc ∧ (Timer.reloadStep t).timer.reloadCd ≤ t.reloadCd := by
  unfold Timer.reloadStep
  split
  · simp
  · split
    · simp
    · simp

theorem Timer.prescaleStep_frame (delay : Nat) (t : Timer) :
    (Timer.prescaleStep delay t).timer.div16 = t.div16 ∧ (Timer.prescaleStep delay t).timer.tma = t.tma ∧
      (Timer.prescaleStep delay t).timer.tac = t.tac := by
  unfold Timer.prescaleStep Timer.timaIncrement
  split_ifs <;> simp

/-- A T-cycle counts the divider and leaves TMA and TAC (60_exceptions R440). -/
theorem Timer.tick_frame (delay : Nat) (t : Timer) :
    (Timer.tick delay t).timer.div16 = t.div16 + 1 ∧ (Timer.tick delay t).timer.tma = t.tma ∧ (Timer.tick delay t).timer.tac = t.tac := by
  obtain ⟨h1, h2, h3⟩ := Timer.prescaleStep_frame delay (Timer.reloadStep { t with div16 := t.div16 + 1 }).timer
  obtain ⟨g1, g2, g3, -, -⟩ := Timer.reloadStep_frame { t with div16 := t.div16 + 1 }
  exact ⟨h1.trans g1, h2.trans g2, h3.trans g3⟩

/-- The timer's advance leaves TMA and TAC (60_exceptions R440). -/
theorem Timer.advance_frame (delay c : Nat) (t : Timer) :
    (Timer.advance delay c t).timer.tma = t.tma ∧ (Timer.advance delay c t).timer.tac = t.tac := by
  induction c generalizing t with
  | zero => exact ⟨rfl, rfl⟩
  | succ c ih =>
    obtain ⟨-, h2, h3⟩ := Timer.tick_frame delay t
    exact ⟨(ih _).1.trans h2, (ih _).2.trans h3⟩

theorem Timer.reloadStep_wf {delay : Nat} {t : Timer} (h : t.wf delay) : (Timer.reloadStep t).timer.wf delay := by
  obtain ⟨-, -, h3, h4, h5⟩ := Timer.reloadStep_frame t
  unfold Timer.wf Timer.period at *
  rw [h3, h4]
  exact ⟨h.1, h5.trans h.2⟩

theorem Timer.prescaleStep_wf {delay : Nat} {t : Timer} (h : t.wf delay) : (Timer.prescaleStep delay t).timer.wf delay := by
  have hp := Timer.period_pos t
  obtain ⟨h1, h2⟩ := h
  unfold Timer.prescaleStep
  split
  · split
    · exact ⟨by assumption, h2⟩
    · have h0 : t.tacc + 1 - t.period = 0 := by omega
      unfold Timer.timaIncrement
      simp only [h0]
      split
      · split
        · exact ⟨hp, h2⟩
        · exact ⟨hp, Nat.le_refl _⟩
      · exact ⟨hp, h2⟩
  · exact ⟨h1, h2⟩

/-- The timer's advance keeps the ranges of tacc and reload_cd (10_state R43). -/
theorem Timer.advance_wf {delay c : Nat} {t : Timer} (h : t.wf delay) : (Timer.advance delay c t).timer.wf delay := by
  induction c generalizing t with
  | zero => exact h
  | succ c ih => exact ih (Timer.prescaleStep_wf (Timer.reloadStep_wf (t := { t with div16 := t.div16 + 1 }) h))

/-- Everything the timer's advance can do to the machine: the timer's own advance, and a TIMER request (60_exceptions R440). -/
theorem State.timerAdvance_cases (s : State) (c : Nat) :
    s.timerAdvance c = { s with timer := (Timer.advance s.params.timerReloadDelay c s.timer).timer } ∨
    s.timerAdvance c =
      { s with timer := (Timer.advance s.params.timerReloadDelay c s.timer).timer, iflag := s.iflag ||| IrqSource.timer.mask } := by
  unfold State.timerAdvance
  dsimp only
  split
  · exact .inr rfl
  · exact .inl rfl

/-! The PPU (60_exceptions R450 to R462). -/

/-- A projection that the PPU's registers and IF do not reach is untouched by a request. -/
theorem State.requestStat_keeps {α : Type} (f : State → α) (hi : ∀ s i, f { s with iflag := i } = f s) (s : State) (k : Nat) :
    f (s.requestStat k) = f s := by
  unfold State.requestStat
  split
  · exact hi _ _
  · rfl

theorem State.lycCheck_keeps {α : Type} (f : State → α) (hi : ∀ s i, f { s with iflag := i } = f s) (s : State) :
    f s.lycCheck = f s := by
  unfold State.lycCheck
  split
  · exact State.requestStat_keeps f hi _ _
  · rfl

/-- The end of a mode changes the PPU and IF only. -/
theorem State.modeEnd_keeps {α : Type} (f : State → α) (hi : ∀ s i, f { s with iflag := i } = f s)
    (hp : ∀ s p, f { s with ppu := p } = f s) (s : State) : f s.modeEnd = f s := by
  unfold State.modeEnd
  split
  · exact hp _ _
  · unfold State.endDataTransfer
    rw [State.requestStat_keeps f hi]
    exact hp _ _
  · unfold State.endHblank
    dsimp only
    split
    · rw [State.requestStat_keeps f hi, State.mapPpu, hp, State.request, hi, State.setMode, State.mapPpu, hp, State.lycCheck_keeps f hi]
      exact hp _ _
    · rw [State.requestStat_keeps f hi, State.setMode, State.mapPpu, hp, State.lycCheck_keeps f hi]
      exact hp _ _
  · unfold State.endVblankLine
    dsimp only
    split
    · rw [State.lycCheck_keeps f hi, State.requestStat_keeps f hi, State.mapPpu, hp]
      exact hp _ _
    · rw [State.lycCheck_keeps f hi]
      exact hp _ _

theorem State.ppuLoop_keeps {α : Type} (f : State → α) (hi : ∀ s i, f { s with iflag := i } = f s)
    (hp : ∀ s p, f { s with ppu := p } = f s) (k : Nat) (s : State) : f (State.ppuLoop k s) = f s := by
  induction k generalizing s with
  | zero => rfl
  | succ k ih =>
    unfold State.ppuLoop
    split
    · rw [ih, State.modeEnd_keeps f hi hp]
      exact hp _ _
    · rfl

/-- The PPU's advance changes the PPU and IF only. -/
theorem State.ppuAdvance_keeps {α : Type} (f : State → α) (hi : ∀ s i, f { s with iflag := i } = f s)
    (hp : ∀ s p, f { s with ppu := p } = f s) (s : State) (c : Nat) : f (s.ppuAdvance c) = f s := by
  unfold State.ppuAdvance
  split
  · rw [State.ppuLoop_keeps f hi hp]
    exact hp _ _
  · rfl

/-- The advance of the devices changes the timer, the PPU, IF and total_cycles only. -/
theorem State.advanceDevices_keeps {α : Type} (f : State → α) (hi : ∀ s i, f { s with iflag := i } = f s)
    (hp : ∀ s p, f { s with ppu := p } = f s) (ht : ∀ s t, f { s with timer := t } = f s)
    (hc : ∀ s n, f { s with totalCycles := n } = f s) (s : State) : f s.advanceDevices = f s := by
  unfold State.advanceDevices
  dsimp only
  rw [hc, State.ppuAdvance_keeps f hi hp]
  rcases State.timerAdvance_cases s s.cycles with h | h
  · rw [h, ht]
  · rw [h]
    have h1 := hi { s with timer := (Timer.advance s.params.timerReloadDelay s.cycles s.timer).timer } (s.iflag ||| IrqSource.timer.mask)
    exact h1.trans (ht s _)

section
variable (s : State)
@[simp] theorem State.advanceDevices_regs : s.advanceDevices.regs = s.regs :=
  State.advanceDevices_keeps (·.regs) (fun _ _ => rfl) (fun _ _ => rfl) (fun _ _ => rfl) (fun _ _ => rfl) s
@[simp] theorem State.advanceDevices_ime : s.advanceDevices.ime = s.ime :=
  State.advanceDevices_keeps (·.ime) (fun _ _ => rfl) (fun _ _ => rfl) (fun _ _ => rfl) (fun _ _ => rfl) s
@[simp] theorem State.advanceDevices_eiPending : s.advanceDevices.eiPending = s.eiPending :=
  State.advanceDevices_keeps (·.eiPending) (fun _ _ => rfl) (fun _ _ => rfl) (fun _ _ => rfl) (fun _ _ => rfl) s
@[simp] theorem State.advanceDevices_halted : s.advanceDevices.halted = s.halted :=
  State.advanceDevices_keeps (·.halted) (fun _ _ => rfl) (fun _ _ => rfl) (fun _ _ => rfl) (fun _ _ => rfl) s
@[simp] theorem State.advanceDevices_fault : s.advanceDevices.fault = s.fault :=
  State.advanceDevices_keeps (·.fault) (fun _ _ => rfl) (fun _ _ => rfl) (fun _ _ => rfl) (fun _ _ => rfl) s
@[simp] theorem State.advanceDevices_ie : s.advanceDevices.ie = s.ie :=
  State.advanceDevices_keeps (·.ie) (fun _ _ => rfl) (fun _ _ => rfl) (fun _ _ => rfl) (fun _ _ => rfl) s
@[simp] theorem State.advanceDevices_joy : s.advanceDevices.joy = s.joy :=
  State.advanceDevices_keeps (·.joy) (fun _ _ => rfl) (fun _ _ => rfl) (fun _ _ => rfl) (fun _ _ => rfl) s
@[simp] theorem State.advanceDevices_mem : s.advanceDevices.mem = s.mem :=
  State.advanceDevices_keeps (·.mem) (fun _ _ => rfl) (fun _ _ => rfl) (fun _ _ => rfl) (fun _ _ => rfl) s
@[simp] theorem State.advanceDevices_cart : s.advanceDevices.cart = s.cart :=
  State.advanceDevices_keeps (·.cart) (fun _ _ => rfl) (fun _ _ => rfl) (fun _ _ => rfl) (fun _ _ => rfl) s
@[simp] theorem State.advanceDevices_cycles : s.advanceDevices.cycles = s.cycles :=
  State.advanceDevices_keeps (·.cycles) (fun _ _ => rfl) (fun _ _ => rfl) (fun _ _ => rfl) (fun _ _ => rfl) s
@[simp] theorem State.advanceDevices_params : s.advanceDevices.params = s.params :=
  State.advanceDevices_keeps (·.params) (fun _ _ => rfl) (fun _ _ => rfl) (fun _ _ => rfl) (fun _ _ => rfl) s

theorem State.advanceDevices_totalCycles : s.advanceDevices.totalCycles = s.totalCycles + s.cycles := by
  unfold State.advanceDevices
  dsimp only
  rw [State.ppuAdvance_keeps (·.totalCycles) (fun _ _ => rfl) (fun _ _ => rfl)]
  rcases State.timerAdvance_cases s s.cycles with h | h <;> rw [h]

theorem State.advanceDevices_timer :
    s.advanceDevices.timer = (Timer.advance s.params.timerReloadDelay s.cycles s.timer).timer := by
  unfold State.advanceDevices
  dsimp only
  rw [State.ppuAdvance_keeps (·.timer) (fun _ _ => rfl) (fun _ _ => rfl)]
  rcases State.timerAdvance_cases s s.cycles with h | h <;> rw [h]
end

/-- The PPU's registers that only a CPU write changes (10_state R44 to R48). -/
def Ppu.registers (p : Ppu) : List Byte := [p.lcdc, p.statEnables.setWidth 8, p.scy, p.scx, p.lyc, p.dma, p.bgp, p.obp0, p.obp1, p.wy, p.wx]

/-- What the end of a mode leaves of the PPU: the registers the CPU writes, and the dots. -/
theorem State.modeEnd_ppu (s : State) :
    s.modeEnd.ppu.lcdc = s.ppu.lcdc ∧ s.modeEnd.ppu.statEnables = s.ppu.statEnables ∧ s.modeEnd.ppu.lyc = s.ppu.lyc ∧
      s.modeEnd.ppu.registers = s.ppu.registers ∧ s.modeEnd.ppu.dots = s.ppu.dots := by
  unfold State.modeEnd
  split
  · exact ⟨rfl, rfl, rfl, rfl, rfl⟩
  · unfold State.endDataTransfer
    simp [Ppu.registers]
  · unfold State.endHblank
    dsimp only
    split <;> simp [Ppu.registers, Ppu.nextLine]
  · unfold State.endVblankLine
    dsimp only
    split <;> simp [Ppu.registers]

/-! The PPU's shape: everything of `Ppu.Wf` but the bound of the dots, for an LCD that is on. -/

/-- The shape that the end of a mode keeps. -/
structure Ppu.Shape (p : Ppu) : Prop where
  on : p.lcdOn = true
  line : p.ly.toNat ≤ 153
  vblank : p.mode = .vblank ↔ 144 ≤ p.ly.toNat
  window : p.wline ≤ p.ly.toNat ∧ p.wline ≤ 144
  drawn : p.winDrawn = true → p.mode = .hblank
  sprites : spritesWf p.sprites
  frame : frameBufferWf p.fb

theorem Ppu.Wf.shape {p : Ppu} (h : p.Wf) (on : p.lcdOn = true) : p.Shape :=
  ⟨on, h.line, h.vblank, h.window, h.drawn, h.sprites, h.frame⟩

theorem Ppu.Shape.wf {p : Ppu} (h : p.Shape) (hd : p.dots < p.mode.budget) : p.Wf :=
  ⟨hd, h.line, h.vblank, h.window, h.drawn, fun off => absurd h.on (by simp [off]), h.sprites, h.frame⟩

theorem Ppu.Shape.withDots {p : Ppu} (h : p.Shape) (n : Nat) : Ppu.Shape { p with dots := n } :=
  ⟨h.on, h.line, h.vblank, h.window, h.drawn, h.sprites, h.frame⟩

theorem mem_insertSprite {a b : Sprite} {l : List Sprite} : b ∈ insertSprite a l ↔ b = a ∨ b ∈ l := by
  induction l with
  | nil => simp [insertSprite]
  | cons c rest ih =>
    unfold insertSprite
    split
    · simp
    · simp only [List.mem_cons, ih]
      tauto

theorem mem_sortSprites {b : Sprite} {l : List Sprite} : b ∈ sortSprites l ↔ b ∈ l := by
  induction l with
  | nil => simp [sortSprites]
  | cons c rest ih => simp [sortSprites, mem_insertSprite, ih]

theorem length_insertSprite (a : Sprite) (l : List Sprite) : (insertSprite a l).length = l.length + 1 := by
  induction l with
  | nil => rfl
  | cons c rest ih =>
    unfold insertSprite
    split <;> simp [ih]

theorem length_sortSprites (l : List Sprite) : (sortSprites l).length = l.length := by
  induction l with
  | nil => rfl
  | cons c rest ih => simp [sortSprites, length_insertSprite, ih]

/-- The priority order of two sprites with different OAM indices: by X, then by index (60_exceptions R451). -/
theorem Sprite.before_iff (a b : Sprite) : a.before b = true ↔ a.x.toNat < b.x.toNat ∨ (a.x = b.x ∧ a.index < b.index) := by
  simp [Sprite.before]

theorem Sprite.before_trans {a b c : Sprite} (h : a.before b = true) (h' : b.before c = true) : a.before c = true := by
  rw [Sprite.before_iff] at *
  rcases h with h | ⟨h1, h2⟩ <;> rcases h' with g | ⟨g1, g2⟩
  · exact .inl (h.trans g)
  · exact .inl (g1 ▸ h)
  · exact .inl (h1 ▸ g)
  · exact .inr ⟨h1.trans g1, h2.trans g2⟩

theorem Sprite.before_total {a b : Sprite} (h : a.index ≠ b.index) (hn : ¬ a.before b = true) : b.before a = true := by
  rw [Sprite.before_iff] at *
  push Not at hn
  obtain ⟨h1, h2⟩ := hn
  by_cases hx : a.x = b.x
  · exact .inr ⟨hx.symm, by have := h2 hx; omega⟩
  · have : a.x.toNat ≠ b.x.toNat := fun e => hx (BitVec.eq_of_toNat_eq e)
    exact .inl (by omega)

theorem insertSprite_sorted {a : Sprite} {l : List Sprite} (hl : l.Pairwise fun a b => a.before b = true)
    (hne : ∀ b ∈ l, a.index ≠ b.index) : (insertSprite a l).Pairwise fun a b => a.before b = true := by
  induction l with
  | nil => simp [insertSprite]
  | cons c rest ih =>
    obtain ⟨h1, h2⟩ := List.pairwise_cons.1 hl
    unfold insertSprite
    split
    · next hb =>
      refine List.pairwise_cons.2 ⟨fun d hd => ?_, hl⟩
      rcases List.mem_cons.1 hd with rfl | hd
      · exact hb
      · exact Sprite.before_trans hb (h1 d hd)
    · next hb =>
      refine List.pairwise_cons.2 ⟨fun d hd => ?_, ih h2 fun b hb => hne b (by simp [hb])⟩
      rcases mem_insertSprite.1 hd with rfl | hd
      · exact Sprite.before_total (hne c (by simp)) hb
      · exact h1 d hd

/-- The sort puts sprites with distinct indices into priority order (60_exceptions R451). -/
theorem sortSprites_sorted {l : List Sprite} (h : (l.map (·.index)).Nodup) :
    (sortSprites l).Pairwise fun a b => a.before b = true := by
  induction l with
  | nil => exact List.Pairwise.nil
  | cons c rest ih =>
    simp only [List.map_cons, List.nodup_cons] at h
    refine insertSprite_sorted (ih h.2) fun b hb he => h.1 ?_
    rw [he]
    exact List.mem_map_of_mem (mem_sortSprites.1 hb)

theorem State.visibleSprites_nodup (s : State) : (s.visibleSprites.map (·.index)).Nodup := by
  unfold State.visibleSprites
  refine List.Sublist.nodup (l₂ := ((List.range 40).map s.oamEntry).map (·.index))
    (List.Sublist.map _ ((List.take_sublist _ _).trans List.filter_sublist)) ?_
  rw [List.map_map]
  have : (fun e : Sprite => e.index) ∘ s.oamEntry = id := rfl
  rw [this, List.map_id]
  exact List.nodup_range

/-- The OAM search finds at most 10 sprites, in priority order, each a visible OAM entry (60_exceptions R451). -/
theorem State.oamSearch_wf (s : State) : spritesWf s.oamSearch := by
  refine ⟨?_, sortSprites_sorted s.visibleSprites_nodup, fun e he => ?_⟩
  · unfold State.oamSearch State.visibleSprites
    rw [length_sortSprites]
    exact List.length_take_le _ _
  · have h1 := List.mem_of_mem_take (mem_sortSprites.1 he)
    obtain ⟨h2, h3⟩ := List.mem_filter.1 h1
    obtain ⟨i, hi, rfl⟩ := List.mem_map.1 h2
    have hi' := List.mem_range.1 hi
    unfold Ppu.spriteVisible at h3
    simp only [Bool.and_eq_true, decide_eq_true_eq] at h3
    exact ⟨hi', h3.1.2, h3.2⟩

theorem State.renderedLine_length (s : State) : s.renderedLine.length = 160 := by simp [State.renderedLine]

/-- The end of a mode keeps the PPU's shape (60_exceptions R451 to R456). -/
theorem State.modeEnd_shape {s : State} (h : s.ppu.Shape) : s.modeEnd.ppu.Shape := by
  obtain ⟨on, line, vblank, window, drawn, sprites, frame⟩ := h
  unfold State.modeEnd
  split
  · next hm =>
    refine ⟨on, line, ?_, window, fun hd => absurd (drawn hd) (by simp [hm]), s.oamSearch_wf, frame⟩
    show PpuMode.dataTransfer = .vblank ↔ 144 ≤ s.ppu.ly.toNat
    rw [← vblank, hm]
    simp
  · next hm =>
    unfold State.endDataTransfer
    rw [State.requestStat_ppu, State.mapPpu_ppu]
    refine ⟨on, line, ?_, window, fun _ => rfl, sprites, ?_, ?_⟩
    · show PpuMode.hblank = .vblank ↔ 144 ≤ s.ppu.ly.toNat
      rw [← vblank, hm]
      simp
    · simp [frame.1]
    · intro row hrow
      rcases List.mem_or_eq_of_mem_set hrow with hrow | rfl
      · exact frame.2 row hrow
      · exact s.renderedLine_length
  · next hm =>
    have hly : ¬ 144 ≤ s.ppu.ly.toNat := by rw [← vblank, hm]; simp
    have hn : (s.ppu.ly + 1).toNat = s.ppu.ly.toNat + 1 := by rw [BitVec.toNat_add]; simp; omega
    unfold State.endHblank
    dsimp only
    split
    · next h144 =>
      simp only [State.lycCheck_ppu, State.mapPpu_ppu, Ppu.nextLine] at h144
      rw [State.requestStat_ppu, State.mapPpu_ppu, State.request_ppu, State.setMode_ppu, State.lycCheck_ppu, State.mapPpu_ppu]
      have h144' : s.ppu.ly.toNat + 1 = 144 := by rw [← hn, h144]; rfl
      refine ⟨on, ?_, ?_, ?_, nofun, sprites, frame⟩
      · show (s.ppu.ly + 1).toNat ≤ 153
        omega
      · show PpuMode.vblank = .vblank ↔ 144 ≤ (s.ppu.ly + 1).toNat
        simp only [true_iff]
        omega
      · show (if s.ppu.winDrawn then s.ppu.wline + 1 else s.ppu.wline) ≤ (s.ppu.ly + 1).toNat ∧ (if s.ppu.winDrawn then s.ppu.wline + 1 else s.ppu.wline) ≤ 144
        split <;> omega
    · next h144 =>
      simp only [State.lycCheck_ppu, State.mapPpu_ppu, Ppu.nextLine] at h144
      rw [State.requestStat_ppu, State.setMode_ppu, State.lycCheck_ppu, State.mapPpu_ppu]
      have h144' : s.ppu.ly.toNat + 1 ≠ 144 := fun e => h144 (BitVec.eq_of_toNat_eq (hn.trans e))
      refine ⟨on, ?_, ?_, ?_, nofun, sprites, frame⟩
      · show (s.ppu.ly + 1).toNat ≤ 153
        omega
      · show PpuMode.oamSearch = .vblank ↔ 144 ≤ (s.ppu.ly + 1).toNat
        simp only [reduceCtorEq, false_iff]
        omega
      · show (if s.ppu.winDrawn then s.ppu.wline + 1 else s.ppu.wline) ≤ (s.ppu.ly + 1).toNat ∧ (if s.ppu.winDrawn then s.ppu.wline + 1 else s.ppu.wline) ≤ 144
        split <;> omega
  · next hm =>
    have hly : 144 ≤ s.ppu.ly.toNat := by rw [← vblank, hm]
    have hn : (s.ppu.ly + 1).toNat = s.ppu.ly.toNat + 1 := by rw [BitVec.toNat_add]; simp; omega
    have hnd : s.ppu.winDrawn = false := by
      by_contra hd
      have := drawn (by simpa using hd)
      rw [hm] at this
      cases this
    unfold State.endVblankLine
    dsimp only
    split
    · rw [State.lycCheck_ppu, State.requestStat_ppu, State.mapPpu_ppu]
      exact ⟨on, by show (0#8).toNat ≤ 153; decide, by show PpuMode.oamSearch = .vblank ↔ 144 ≤ (0#8).toNat; decide, by show 0 ≤ (0#8).toNat ∧ 0 ≤ 144; decide, fun hd => absurd hd (by simp [hnd]), sprites, frame⟩
    · next h153 =>
      simp only [State.mapPpu_ppu] at h153
      rw [State.lycCheck_ppu, State.mapPpu_ppu]
      refine ⟨on, ?_, ?_, ?_, fun hd => absurd hd (by simp [hnd]), sprites, frame⟩
      · show (s.ppu.ly + 1).toNat ≤ 153
        omega
      · show s.ppu.mode = .vblank ↔ 144 ≤ (s.ppu.ly + 1).toNat
        rw [hm]
        simp only [true_iff]
        omega
      · show s.ppu.wline ≤ (s.ppu.ly + 1).toNat ∧ s.ppu.wline ≤ 144
        omega

theorem PpuMode.budget_ge (m : PpuMode) : 80 ≤ m.budget := by cases m <;> decide

/-- The loop of the PPU's advance keeps the shape, and with fuel of at least the dots ends below the mode's budget (60_exceptions R450). -/
theorem State.ppuLoop_shape {k : Nat} {s : State} (h : s.ppu.Shape) (hk : s.ppu.dots ≤ k) :
    (State.ppuLoop k s).ppu.Shape ∧ (State.ppuLoop k s).ppu.dots < (State.ppuLoop k s).ppu.mode.budget := by
  induction k generalizing s with
  | zero => exact ⟨h, by have := PpuMode.budget_ge s.ppu.mode; show s.ppu.dots < s.ppu.mode.budget; omega⟩
  | succ k ih =>
    unfold State.ppuLoop
    split
    · next hb =>
      have := PpuMode.budget_ge s.ppu.mode
      refine ih (State.modeEnd_shape (h.withDots _)) ?_
      rw [(State.modeEnd_ppu _).2.2.2.2]
      show s.ppu.dots - s.ppu.mode.budget ≤ k
      omega
    · next hb => exact ⟨h, by omega⟩

/-- The PPU's advance keeps the ranges of its state (10_state R49). -/
theorem State.ppuAdvance_wf {s : State} (h : s.ppu.Wf) (c : Nat) : (s.ppuAdvance c).ppu.Wf := by
  unfold State.ppuAdvance
  split
  · next on =>
    obtain ⟨h1, h2⟩ := State.ppuLoop_shape (s := s.mapPpu fun p => { p with dots := p.dots + c }) (k := s.ppu.dots + c)
      ((h.shape on).withDots _) (Nat.le_refl _)
    exact h1.wf h2
  · exact h

/-! What the PPU's advance reads, and the loop of the rule (60_exceptions R450). -/

/-- Two machines whose PPU and store agree, and where the second one's IF is the first one's with the bits `i` added: all that
the PPU reads, and the requests it makes. -/
structure PpuAlike (i : BitVec 5) (s t : State) : Prop where
  ppu : t.ppu = s.ppu
  mem : t.mem = s.mem
  iflag : t.iflag = i ||| s.iflag

section
variable {i : BitVec 5} {s t : State} (h : PpuAlike i s t)
include h

theorem PpuAlike.mapPpu {f g : Ppu → Ppu} (hf : g s.ppu = f s.ppu) : PpuAlike i (s.mapPpu f) (t.mapPpu g) :=
  ⟨by rw [State.mapPpu_ppu, State.mapPpu_ppu, h.ppu, hf], h.mem, h.iflag⟩

theorem PpuAlike.request (k : IrqSource) : PpuAlike i (s.request k) (t.request k) :=
  ⟨h.ppu, h.mem, by show t.iflag ||| _ = i ||| (s.iflag ||| _); rw [h.iflag, BitVec.or_assoc]⟩

theorem PpuAlike.requestStat (k : Nat) : PpuAlike i (s.requestStat k) (t.requestStat k) := by
  unfold State.requestStat
  rw [h.ppu]
  split
  · exact h.request _
  · exact h

theorem PpuAlike.lycCheck : PpuAlike i s.lycCheck t.lycCheck := by
  unfold State.lycCheck
  rw [h.ppu]
  split
  · exact h.requestStat _
  · exact h

/-- What depends on the PPU and the store alone is the same. -/
theorem PpuAlike.same {α : Type} (f : State → α)
    (hf : ∀ (s : State) r im e hl ft ie fl tm j k cy n p,
      f { s with regs := r, ime := im, eiPending := e, halted := hl, fault := ft, ie := ie, iflag := fl, timer := tm, joy := j, cart := k,
                 cycles := cy, totalCycles := n, params := p } = f s) : f t = f s := by
  have ht : t = { s with
      regs := t.regs, ime := t.ime, eiPending := t.eiPending, halted := t.halted, fault := t.fault, ie := t.ie, iflag := t.iflag,
      timer := t.timer, joy := t.joy, cart := t.cart, cycles := t.cycles, totalCycles := t.totalCycles, params := t.params } := by
    obtain ⟨h1, h2, -⟩ := h
    cases t
    dsimp only at *
    rw [h1, h2]
  rw [ht]
  exact hf s _ _ _ _ _ _ _ _ _ _ _ _ _

theorem PpuAlike.renderedLine : t.renderedLine = s.renderedLine := by
  have h4 : ∀ x l, t.spriteShade x l = s.spriteShade x l := by
    intro x l
    induction l with
    | nil => exact h.same (·.layerShade x) fun _ _ _ _ _ _ _ _ _ _ _ _ _ _ => rfl
    | cons e l ih =>
      simp only [State.spriteShade, ih, h.ppu, h.same (·.layerShade x) fun _ _ _ _ _ _ _ _ _ _ _ _ _ _ => rfl,
        h.same (·.layerIndex x) fun _ _ _ _ _ _ _ _ _ _ _ _ _ _ => rfl, h.same (·.spriteIndex e x) fun _ _ _ _ _ _ _ _ _ _ _ _ _ _ => rfl]
  refine congrArg (List.map · _) (funext fun x => ?_)
  unfold State.pixelShade
  rw [h.ppu, h4, h.same (·.layerShade x) fun _ _ _ _ _ _ _ _ _ _ _ _ _ _ => rfl]

theorem PpuAlike.modeEnd : PpuAlike i s.modeEnd t.modeEnd := by
  unfold State.modeEnd
  rw [h.ppu]
  split
  · exact h.mapPpu (by rw [h.same (·.oamSearch) fun _ _ _ _ _ _ _ _ _ _ _ _ _ _ => rfl])
  · exact (h.mapPpu (by rw [h.renderedLine])).requestStat 0
  · have h1 := (h.mapPpu (f := Ppu.nextLine) (g := Ppu.nextLine) rfl).lycCheck
    unfold State.endHblank
    dsimp only
    rw [h1.ppu]
    split
    · exact (((h1.mapPpu rfl).request _).mapPpu rfl).requestStat 1
    · exact (h1.mapPpu rfl).requestStat 2
  · have h1 := h.mapPpu (f := fun p => { p with ly := p.ly + 1 }) (g := fun p => { p with ly := p.ly + 1 }) rfl
    unfold State.endVblankLine
    dsimp only
    rw [h1.ppu]
    split
    · exact ((h1.mapPpu rfl).requestStat 2).lycCheck
    · exact h1.lycCheck

theorem PpuAlike.ppuLoop (k : Nat) : PpuAlike i (State.ppuLoop k s) (State.ppuLoop k t) := by
  induction k generalizing s t with
  | zero => exact h
  | succ k ih =>
    unfold State.ppuLoop
    rw [h.ppu]
    split
    · exact ih (h.mapPpu rfl).modeEnd
    · exact h

/-- The PPU's advance reads neither IF nor the timer, nor total_cycles (10_state R56): it makes the same changes and adds the same requests (60_exceptions R450). -/
theorem PpuAlike.ppuAdvance (c : Nat) : PpuAlike i (s.ppuAdvance c) (t.ppuAdvance c) := by
  unfold State.ppuAdvance
  rw [h.ppu]
  split
  · exact (h.mapPpu rfl).ppuLoop _
  · exact h
end

theorem ppuMasks_high {k : Nat} (hk : 2 ≤ k) : IrqSource.vblank.mask.getLsbD k = false ∧ IrqSource.lcdStatus.mask.getLsbD k = false := by
  obtain rfl | rfl | rfl | hk' : k = 2 ∨ k = 3 ∨ k = 4 ∨ 5 ≤ k := by omega
  · decide
  · decide
  · decide
  · exact ⟨BitVec.getLsbD_of_ge _ _ hk', BitVec.getLsbD_of_ge _ _ hk'⟩

/-- The end of a mode requests VBLANK and LCD_STATUS alone. -/
theorem State.modeEnd_iflag (s : State) {k : Nat} (hk : 2 ≤ k) : s.modeEnd.iflag.getLsbD k = s.iflag.getLsbD k := by
  have hs : ∀ (s : State) b, (s.requestStat b).iflag.getLsbD k = s.iflag.getLsbD k := by
    intro s b
    unfold State.requestStat
    split
    · show (s.iflag ||| IrqSource.lcdStatus.mask).getLsbD k = _
      rw [BitVec.getLsbD_or, (ppuMasks_high hk).2, Bool.or_false]
    · rfl
  have hl : ∀ s : State, s.lycCheck.iflag.getLsbD k = s.iflag.getLsbD k := by
    intro s
    unfold State.lycCheck
    split
    · exact hs _ _
    · rfl
  unfold State.modeEnd
  split
  · rfl
  · exact hs _ _
  · unfold State.endHblank
    dsimp only
    split
    · rw [hs]
      show (State.iflag _ ||| IrqSource.vblank.mask).getLsbD k = _
      rw [BitVec.getLsbD_or, (ppuMasks_high hk).1, Bool.or_false]
      exact hl _
    · rw [hs]
      exact hl _
  · unfold State.endVblankLine
    dsimp only
    split
    · rw [hl, hs]
      rfl
    · exact hl _

/-- The PPU's advance requests VBLANK and LCD_STATUS alone. -/
theorem State.ppuAdvance_iflag (s : State) (c : Nat) {k : Nat} (hk : 2 ≤ k) : (s.ppuAdvance c).iflag.getLsbD k = s.iflag.getLsbD k := by
  have hl : ∀ n (s : State), (State.ppuLoop n s).iflag.getLsbD k = s.iflag.getLsbD k := by
    intro n
    induction n with
    | zero => exact fun _ => rfl
    | succ n ih =>
      intro s
      unfold State.ppuLoop
      split
      · rw [ih, State.modeEnd_iflag _ hk]
        rfl
      · rfl
  unfold State.ppuAdvance
  split
  · exact hl _ _
  · rfl

/-- The loop of `PpuAdvance` does not see its fuel. -/
theorem State.ppuLoop_fuel {k n : Nat} {s : State} (hk : s.ppu.dots ≤ k) (hn : s.ppu.dots ≤ n) : State.ppuLoop k s = State.ppuLoop n s := by
  induction k generalizing n s with
  | zero =>
    have := PpuMode.budget_ge s.ppu.mode
    cases n with
    | zero => rfl
    | succ n => unfold State.ppuLoop; rw [if_neg (by omega)]
  | succ k ih =>
    have := PpuMode.budget_ge s.ppu.mode
    cases n with
    | zero => unfold State.ppuLoop; rw [if_neg (by omega)]
    | succ n =>
      unfold State.ppuLoop
      split
      · refine ih ?_ ?_ <;> rw [(State.modeEnd_ppu _).2.2.2.2] <;> show s.ppu.dots - s.ppu.mode.budget ≤ _ <;> omega
      · rfl

/-- `PpuAdvance(c)` as the rule writes it: nothing with the LCD off; with fewer dots than the budget only dots move; else the mode ends and the
loop goes on with the rest (60_exceptions R450). -/
theorem State.ppuAdvance_eq (s : State) (c : Nat) :
    s.ppuAdvance c =
      if s.ppu.lcdOn then
        if s.ppu.mode.budget ≤ s.ppu.dots + c then
          (State.modeEnd { s with ppu := { s.ppu with dots := s.ppu.dots + c - s.ppu.mode.budget } }).ppuAdvance 0
        else { s with ppu := { s.ppu with dots := s.ppu.dots + c } }
      else s := by
  have hb := PpuMode.budget_ge s.ppu.mode
  unfold State.ppuAdvance
  split
  · next on =>
    split
    · next hc =>
      obtain ⟨h1, -, -, -, h5⟩ := State.modeEnd_ppu { s with ppu := { s.ppu with dots := s.ppu.dots + c - s.ppu.mode.budget } }
      rw [if_pos (by unfold Ppu.lcdOn at *; rw [h1]; exact on)]
      generalize hu : State.modeEnd { s with ppu := { s.ppu with dots := s.ppu.dots + c - s.ppu.mode.budget } } = u at h5
      obtain ⟨n, hn⟩ : ∃ n, s.ppu.dots + c = n + 1 := ⟨s.ppu.dots + c - 1, by omega⟩
      have he : (u.mapPpu fun p => { p with dots := p.dots + 0 }) = u := rfl
      rw [he, hn, State.ppuLoop, if_pos (by show s.ppu.mode.budget ≤ s.ppu.dots + c; omega)]
      refine (congrArg _ hu).trans (State.ppuLoop_fuel ?_ (Nat.le_refl _))
      rw [h5]
      show s.ppu.dots + c - s.ppu.mode.budget ≤ n
      omega
    · next hc =>
      show State.ppuLoop (s.ppu.dots + c) { s with ppu := { s.ppu with dots := s.ppu.dots + c } } = _
      generalize s.ppu.dots + c = n at hc ⊢
      cases n with
      | zero => rfl
      | succ n => rw [State.ppuLoop, if_neg hc]
  · rfl

/-- The PPU's advance leaves the registers the CPU writes. -/
theorem State.ppuAdvance_registers (s : State) (c : Nat) : (s.ppuAdvance c).ppu.registers = s.ppu.registers := by
  have hl : ∀ n (s : State), (State.ppuLoop n s).ppu.registers = s.ppu.registers := by
    intro n
    induction n with
    | zero => exact fun _ => rfl
    | succ n ih =>
      intro s
      unfold State.ppuLoop
      split
      · rw [ih, (State.modeEnd_ppu _).2.2.2.1]
        rfl
      · rfl
  unfold State.ppuAdvance
  split
  · exact hl _ _
  · rfl

/-- The advance of the devices is, for the PPU, the PPU's own advance: it reads neither the timer nor IF (60_exceptions R400, R450). -/
theorem State.advanceDevices_ppu (s : State) : s.advanceDevices.ppu = (s.ppuAdvance s.cycles).ppu := by
  have key : ∀ i t, PpuAlike i s t → (t.ppuAdvance s.cycles).ppu = (s.ppuAdvance s.cycles).ppu := fun _ _ h => (h.ppuAdvance _).ppu
  unfold State.advanceDevices
  dsimp only
  rcases State.timerAdvance_cases s s.cycles with e | e <;> rw [e]
  · exact key 0 _ ⟨rfl, rfl, by simp⟩
  · exact key IrqSource.timer.mask _ ⟨rfl, rfl, BitVec.or_comm _ _⟩

/-- IF after the advance of the devices: what it held, the timer's request and the PPU's requests (60_exceptions R400, R420). -/
theorem State.advanceDevices_iflag (s : State) :
    s.advanceDevices.iflag = s.iflag ||| (if (Timer.advance s.params.timerReloadDelay s.cycles s.timer).request then IrqSource.timer.mask else 0) |||
      (State.ppuAdvance { s with iflag := 0 } s.cycles).iflag := by
  have key : ∀ i t, PpuAlike i { s with iflag := 0 } t →
      (t.ppuAdvance s.cycles).iflag = i ||| (State.ppuAdvance { s with iflag := 0 } s.cycles).iflag := fun _ _ h => (h.ppuAdvance _).iflag
  refine key _ (s.timerAdvance s.cycles) ?_
  unfold State.timerAdvance
  dsimp only
  split
  · exact ⟨rfl, rfl, by simp⟩
  · exact ⟨rfl, rfl, by simp⟩

/-- `total_cycles` has no effect on the devices: from any other count, the advance answers the same machine with the count moved (10_state R56). -/
theorem State.advanceDevices_count (s : State) (n : Nat) :
    State.advanceDevices { s with totalCycles := n } = { s.advanceDevices with totalCycles := n + s.cycles } := by
  have hp : (State.advanceDevices { s with totalCycles := n }).ppu = s.advanceDevices.ppu := by
    rw [State.advanceDevices_ppu, State.advanceDevices_ppu]
    exact (PpuAlike.ppuAdvance (s := s) (t := { s with totalCycles := n }) (i := 0) ⟨rfl, rfl, by simp⟩ _).ppu
  have hi : (State.advanceDevices { s with totalCycles := n }).iflag = s.advanceDevices.iflag := by
    rw [State.advanceDevices_iflag, State.advanceDevices_iflag]
    congr 1
    have h := PpuAlike.ppuAdvance (s := { s with iflag := 0 }) (t := { s with totalCycles := n, iflag := 0 }) (i := 0) ⟨rfl, rfl, by simp⟩ s.cycles
    exact h.iflag.trans (by simp)
  have ht : (State.advanceDevices { s with totalCycles := n }).timer = s.advanceDevices.timer := by
    rw [State.advanceDevices_timer, State.advanceDevices_timer]
  have hc := State.advanceDevices_totalCycles { s with totalCycles := n }
  have hr := State.advanceDevices_keeps (fun u : State => { u with ppu := s.ppu, iflag := 0, timer := s.timer, totalCycles := 0 })
    (fun _ _ => rfl) (fun _ _ => rfl) (fun _ _ => rfl) (fun _ _ => rfl)
  have h := (hr { s with totalCycles := n }).trans (hr s).symm
  simp only [State.mk.injEq] at h
  generalize State.advanceDevices { s with totalCycles := n } = t at *
  generalize s.advanceDevices = u at *
  cases t
  cases u
  simp_all

end Sys2Proof.Machine
end

