-- ==== Sys2Proof/Laws/Exec.lean ====
section
/-! SUPPORT. What exec answers for each family of instructions, by its operands, and the case split of the instructions into those
families: with it a claim about every instruction needs one case for each rule of the spec, not one for each row of the table. -/

namespace Sys2Proof.Machine

open Sys2Proof

variable (s : State)

theorem exec_ldRegReg (dst r : Reg8) : exec (Instr.ldRegReg dst r) s = .next (ldRegReg dst r (s.pass 1 4)) := by
  cases dst <;> cases r <;> rfl

theorem exec_ldRegImm (dst : Reg8) (n : Byte) : exec (Instr.ldRegImm dst n) s = .next (ldRegImm dst n (s.pass 2 8)) := by
  cases dst <;> rfl

theorem exec_ldRegAtHL (dst : Reg8) : exec (Instr.ldRegAtHL dst) s = .next (ldRegAtHL dst (s.pass 1 8)) := by
  cases dst <;> rfl

theorem exec_ldAtHLReg (r : Reg8) : exec (Instr.ldAtHLReg r) s = .next (ldAtHLReg r (s.pass 1 8)) := by
  cases r <;> rfl

theorem exec_ldAtHLImm (n : Byte) : exec (.ld_atHL_n n) s = .next (ldAtHLImm n (s.pass 2 12)) := rfl

theorem exec_ldAAtBC : exec .ld_A_atBC s = .next (ldAAt .bc (s.pass 1 8)) := rfl

theorem exec_ldAAtDE : exec .ld_A_atDE s = .next (ldAAt .de (s.pass 1 8)) := rfl

theorem exec_ldAtBCA : exec .ld_atBC_A s = .next (ldAtA .bc (s.pass 1 8)) := rfl

theorem exec_ldAtDEA : exec .ld_atDE_A s = .next (ldAtA .de (s.pass 1 8)) := rfl

theorem exec_ldAAbs (nn : Word) : exec (.ld_A_atNn nn) s = .next (ldAAbs nn (s.pass 3 16)) := rfl

theorem exec_ldAbsA (nn : Word) : exec (.ld_atNn_A nn) s = .next (ldAbsA nn (s.pass 3 16)) := rfl

theorem exec_ldhA (n : Byte) : exec (.ldh_A_atN n) s = .next (ldhA n (s.pass 2 12)) := rfl

theorem exec_ldhStoreA (n : Byte) : exec (.ldh_atN_A n) s = .next (ldhStoreA n (s.pass 2 12)) := rfl

theorem exec_ldAHighC : exec .ld_A_atC s = .next (ldAHighC (s.pass 1 8)) := rfl

theorem exec_ldHighCA : exec .ld_atC_A s = .next (ldHighCA (s.pass 1 8)) := rfl

theorem exec_ldAtHLIncA : exec .ld_atHLinc_A s = .next (ldAtHLIncA (s.pass 1 8)) := rfl

theorem exec_ldAAtHLInc : exec .ld_A_atHLinc s = .next (ldAAtHLInc (s.pass 1 8)) := rfl

theorem exec_ldAtHLDecA : exec .ld_atHLdec_A s = .next (ldAtHLDecA (s.pass 1 8)) := rfl

theorem exec_ldAAtHLDec : exec .ld_A_atHLdec s = .next (ldAAtHLDec (s.pass 1 8)) := rfl

theorem exec_ldPairImm (p : Reg16) (nn : Word) : exec (Instr.ldPairImm p nn) s = .next (ldPairImm p nn (s.pass 3 12)) := by
  cases p <;> rfl

theorem exec_ldAbsSP (nn : Word) : exec (.ld_atNn_SP nn) s = .next (ldAbsSP nn (s.pass 3 20)) := rfl

theorem exec_ldSPHL : exec .ld_SP_HL s = .next (ldSPHL (s.pass 1 8)) := rfl

theorem exec_ldHLSPPlus (e : Int) : exec (.ld_HL_SPplusE e) s = .next (ldHLSPPlus e (s.pass 2 12)) := rfl

theorem exec_push (q : StackReg) : exec (Instr.pushPair q) s = .next (push q (s.pass 1 16)) := by
  cases q <;> rfl

theorem exec_pop (q : StackReg) : exec (Instr.popPair q) s = .next (pop q (s.pass 1 12)) := by
  cases q <;> rfl

theorem exec_jump (nn : Word) : exec (.jp_nn nn) s = .next (jump nn (s.pass 3 16)) := rfl

theorem exec_jumpCond (cc : Cond) (nn : Word) : exec (Instr.jpCond cc nn) s = .next (jumpCond cc nn (s.pass 3 12)) := by
  cases cc <;> rfl

theorem exec_jumpHL : exec .jp_HL s = .next (jumpHL (s.pass 1 4)) := rfl

theorem exec_jumpRel (e : Int) : exec (.jr_e e) s = .next (jumpRel e (s.pass 2 12)) := rfl

theorem exec_jumpRelCond (cc : Cond) (e : Int) : exec (Instr.jrCond cc e) s = .next (jumpRelCond cc e (s.pass 2 8)) := by
  cases cc <;> rfl

theorem exec_call (nn : Word) : exec (.call_nn nn) s = .next (call nn (s.pass 3 24)) := rfl

theorem exec_callCond (cc : Cond) (nn : Word) : exec (Instr.callCond cc nn) s = .next (callCond cc nn (s.pass 3 12)) := by
  cases cc <;> rfl

theorem exec_ret : exec .ret s = .next (ret (s.pass 1 16)) := rfl

theorem exec_retCond (cc : Cond) : exec (Instr.retCond cc) s = .next (retCond cc (s.pass 1 8)) := by
  cases cc <;> rfl

theorem exec_reti : exec .reti s = .next (reti (s.pass 1 16)) := rfl

theorem exec_rst (y : Fin 8) : exec (Instr.rst y) s = .next (call (BitVec.ofNat 16 (8 * y.val)) (s.pass 1 16)) := by
  fin_cases y <;> rfl

theorem exec_incReg (r : Reg8) : exec (Instr.incReg r) s = .next (incReg r (s.pass 1 4)) := by
  cases r <;> rfl

theorem exec_decReg (r : Reg8) : exec (Instr.decReg r) s = .next (decReg r (s.pass 1 4)) := by
  cases r <;> rfl

theorem exec_incAtHL : exec .inc_atHL s = .next (incAtHL (s.pass 1 12)) := rfl

theorem exec_decAtHL : exec .dec_atHL s = .next (decAtHL (s.pass 1 12)) := rfl

theorem exec_incPair (p : Reg16) : exec (Instr.incPair p) s = .next (incPair p (s.pass 1 8)) := by
  cases p <;> rfl

theorem exec_decPair (p : Reg16) : exec (Instr.decPair p) s = .next (decPair p (s.pass 1 8)) := by
  cases p <;> rfl

theorem exec_alu (op : AluOp) (o : Operand8) : exec (Instr.alu op o) s = .next (alu op o (s.pass 1 (if o = .atHL then 8 else 4))) := by
  cases op <;> (rcases o with (o | _) <;> [cases o; skip]) <;> rfl

theorem exec_aluImm (op : AluOp) (n : Byte) : exec (Instr.aluImm op n) s = .next (aluWith op n (s.pass 2 8)) := by
  cases op <;> rfl

theorem exec_addHL (p : Reg16) : exec (Instr.addHL p) s = .next (addHL p (s.pass 1 8)) := by
  cases p <;> rfl

theorem exec_addSP (e : Int) : exec (.add_SP_e e) s = .next (addSP e (s.pass 2 16)) := rfl

theorem exec_rlca : exec .rlca s = .next (rotateA .rlc (s.pass 1 4)) := rfl

theorem exec_rrca : exec .rrca s = .next (rotateA .rrc (s.pass 1 4)) := rfl

theorem exec_rla : exec .rla s = .next (rotateA .rl (s.pass 1 4)) := rfl

theorem exec_rra : exec .rra s = .next (rotateA .rr (s.pass 1 4)) := rfl

theorem exec_rot (op : RotOp) (o : Operand8) : exec (Instr.rot op o) s = .next (rotateShift op o (s.pass 2 (if o = .atHL then 16 else 8))) := by
  cases op <;> (rcases o with (o | _) <;> [cases o; skip]) <;> rfl

theorem exec_bitTest (b : Fin 8) (o : Operand8) : exec (Instr.bitTest b o) s = .next (bitTest b o (s.pass 2 (if o = .atHL then 12 else 8))) := by
  fin_cases b <;> (rcases o with (o | _) <;> [cases o; skip]) <;> rfl

theorem exec_bitReset (b : Fin 8) (o : Operand8) : exec (Instr.bitReset b o) s = .next (bitReset b o (s.pass 2 (if o = .atHL then 16 else 8))) := by
  fin_cases b <;> (rcases o with (o | _) <;> [cases o; skip]) <;> rfl

theorem exec_bitSet (b : Fin 8) (o : Operand8) : exec (Instr.bitSet b o) s = .next (bitSet b o (s.pass 2 (if o = .atHL then 16 else 8))) := by
  fin_cases b <;> (rcases o with (o | _) <;> [cases o; skip]) <;> rfl

theorem exec_nop : exec .nop s = .next (noOperation (s.pass 1 4)) := rfl

theorem exec_di : exec .di s = .next (disableInterrupts (s.pass 1 4)) := rfl

theorem exec_ei : exec .ei s = .next (enableInterrupts (s.pass 1 4)) := rfl

theorem exec_daa : exec .daa s = .next (decimalAdjust (s.pass 1 4)) := rfl

theorem exec_cpl : exec .cpl s = .next (complementA (s.pass 1 4)) := rfl

theorem exec_scf : exec .scf s = .next (setCarry (s.pass 1 4)) := rfl

theorem exec_ccf : exec .ccf s = .next (complementCarry (s.pass 1 4)) := rfl

theorem exec_halt : exec .halt s = haltOr (s.pass 1 4) s := rfl

theorem exec_stop (n : Byte) : exec (.stop n) s = .fault (.stop s.regs.pc) := rfl

theorem exec_illegal {i : Instr} {b : Byte} (h : i.illegalByte = some b) : exec i s = .fault (.illegalOpcode b s.regs.pc) := by
  cases i <;> first | cases h; rfl | cases h

/-- Every instruction lies in one of the families. -/
theorem Instr.byFamily {P : Instr → Prop}
    (ldRegReg : ∀ (dst r : Reg8), P (Instr.ldRegReg dst r))
    (ldRegImm : ∀ (dst : Reg8) (n : Byte), P (Instr.ldRegImm dst n))
    (ldRegAtHL : ∀ (dst : Reg8), P (Instr.ldRegAtHL dst))
    (ldAtHLReg : ∀ (r : Reg8), P (Instr.ldAtHLReg r))
    (ldAtHLImm : ∀ (n : Byte), P (.ld_atHL_n n))
    (ldAAtBC : P (.ld_A_atBC))
    (ldAAtDE : P (.ld_A_atDE))
    (ldAtBCA : P (.ld_atBC_A))
    (ldAtDEA : P (.ld_atDE_A))
    (ldAAbs : ∀ (nn : Word), P (.ld_A_atNn nn))
    (ldAbsA : ∀ (nn : Word), P (.ld_atNn_A nn))
    (ldhA : ∀ (n : Byte), P (.ldh_A_atN n))
    (ldhStoreA : ∀ (n : Byte), P (.ldh_atN_A n))
    (ldAHighC : P (.ld_A_atC))
    (ldHighCA : P (.ld_atC_A))
    (ldAtHLIncA : P (.ld_atHLinc_A))
    (ldAAtHLInc : P (.ld_A_atHLinc))
    (ldAtHLDecA : P (.ld_atHLdec_A))
    (ldAAtHLDec : P (.ld_A_atHLdec))
    (ldPairImm : ∀ (p : Reg16) (nn : Word), P (Instr.ldPairImm p nn))
    (ldAbsSP : ∀ (nn : Word), P (.ld_atNn_SP nn))
    (ldSPHL : P (.ld_SP_HL))
    (ldHLSPPlus : ∀ (e : Int), P (.ld_HL_SPplusE e))
    (push : ∀ (q : StackReg), P (Instr.pushPair q))
    (pop : ∀ (q : StackReg), P (Instr.popPair q))
    (jump : ∀ (nn : Word), P (.jp_nn nn))
    (jumpCond : ∀ (cc : Cond) (nn : Word), P (Instr.jpCond cc nn))
    (jumpHL : P (.jp_HL))
    (jumpRel : ∀ (e : Int), P (.jr_e e))
    (jumpRelCond : ∀ (cc : Cond) (e : Int), P (Instr.jrCond cc e))
    (call : ∀ (nn : Word), P (.call_nn nn))
    (callCond : ∀ (cc : Cond) (nn : Word), P (Instr.callCond cc nn))
    (ret : P (.ret))
    (retCond : ∀ (cc : Cond), P (Instr.retCond cc))
    (reti : P (.reti))
    (rst : ∀ (y : Fin 8), P (Instr.rst y))
    (incReg : ∀ (r : Reg8), P (Instr.incReg r))
    (decReg : ∀ (r : Reg8), P (Instr.decReg r))
    (incAtHL : P (.inc_atHL))
    (decAtHL : P (.dec_atHL))
    (incPair : ∀ (p : Reg16), P (Instr.incPair p))
    (decPair : ∀ (p : Reg16), P (Instr.decPair p))
    (alu : ∀ (op : AluOp) (o : Operand8), P (Instr.alu op o))
    (aluImm : ∀ (op : AluOp) (n : Byte), P (Instr.aluImm op n))
    (addHL : ∀ (p : Reg16), P (Instr.addHL p))
    (addSP : ∀ (e : Int), P (.add_SP_e e))
    (rlca : P (.rlca))
    (rrca : P (.rrca))
    (rla : P (.rla))
    (rra : P (.rra))
    (rot : ∀ (op : RotOp) (o : Operand8), P (Instr.rot op o))
    (bitTest : ∀ (b : Fin 8) (o : Operand8), P (Instr.bitTest b o))
    (bitReset : ∀ (b : Fin 8) (o : Operand8), P (Instr.bitReset b o))
    (bitSet : ∀ (b : Fin 8) (o : Operand8), P (Instr.bitSet b o))
    (nop : P (.nop))
    (di : P (.di))
    (ei : P (.ei))
    (daa : P (.daa))
    (cpl : P (.cpl))
    (scf : P (.scf))
    (ccf : P (.ccf))
    (halt : P .halt)
    (stop : ∀ n : Byte, P (.stop n))
    (illegal : ∀ (i : Instr) (b : Byte), i.illegalByte = some b → P i) :
    ∀ i, P i
  | .nop => nop
  | .ld_BC_nn nn => ldPairImm .bc nn
  | .ld_atBC_A => ldAtBCA
  | .inc_BC => incPair .bc
  | .inc_B => incReg .b
  | .dec_B => decReg .b
  | .ld_B_n n => ldRegImm .b n
  | .rlca => rlca
  | .ld_atNn_SP nn => ldAbsSP nn
  | .add_HL_BC => addHL .bc
  | .ld_A_atBC => ldAAtBC
  | .dec_BC => decPair .bc
  | .inc_C => incReg .c
  | .dec_C => decReg .c
  | .ld_C_n n => ldRegImm .c n
  | .rrca => rrca
  | .stop n => stop n
  | .ld_DE_nn nn => ldPairImm .de nn
  | .ld_atDE_A => ldAtDEA
  | .inc_DE => incPair .de
  | .inc_D => incReg .d
  | .dec_D => decReg .d
  | .ld_D_n n => ldRegImm .d n
  | .rla => rla
  | .jr_e e => jumpRel e
  | .add_HL_DE => addHL .de
  | .ld_A_atDE => ldAAtDE
  | .dec_DE => decPair .de
  | .inc_E => incReg .e
  | .dec_E => decReg .e
  | .ld_E_n n => ldRegImm .e n
  | .rra => rra
  | .jr_NZ_e e => jumpRelCond .nz e
  | .ld_HL_nn nn => ldPairImm .hl nn
  | .ld_atHLinc_A => ldAtHLIncA
  | .inc_HL => incPair .hl
  | .inc_H => incReg .h
  | .dec_H => decReg .h
  | .ld_H_n n => ldRegImm .h n
  | .daa => daa
  | .jr_Z_e e => jumpRelCond .z e
  | .add_HL_HL => addHL .hl
  | .ld_A_atHLinc => ldAAtHLInc
  | .dec_HL => decPair .hl
  | .inc_L => incReg .l
  | .dec_L => decReg .l
  | .ld_L_n n => ldRegImm .l n
  | .cpl => cpl
  | .jr_NC_e e => jumpRelCond .nc e
  | .ld_SP_nn nn => ldPairImm .sp nn
  | .ld_atHLdec_A => ldAtHLDecA
  | .inc_SP => incPair .sp
  | .inc_atHL => incAtHL
  | .dec_atHL => decAtHL
  | .ld_atHL_n n => ldAtHLImm n
  | .scf => scf
  | .jr_C_e e => jumpRelCond .c e
  | .add_HL_SP => addHL .sp
  | .ld_A_atHLdec => ldAAtHLDec
  | .dec_SP => decPair .sp
  | .inc_A => incReg .a
  | .dec_A => decReg .a
  | .ld_A_n n => ldRegImm .a n
  | .ccf => ccf
  | .ld_B_B => ldRegReg .b .b
  | .ld_B_C => ldRegReg .b .c
  | .ld_B_D => ldRegReg .b .d
  | .ld_B_E => ldRegReg .b .e
  | .ld_B_H => ldRegReg .b .h
  | .ld_B_L => ldRegReg .b .l
  | .ld_B_atHL => ldRegAtHL .b
  | .ld_B_A => ldRegReg .b .a
  | .ld_C_B => ldRegReg .c .b
  | .ld_C_C => ldRegReg .c .c
  | .ld_C_D => ldRegReg .c .d
  | .ld_C_E => ldRegReg .c .e
  | .ld_C_H => ldRegReg .c .h
  | .ld_C_L => ldRegReg .c .l
  | .ld_C_atHL => ldRegAtHL .c
  | .ld_C_A => ldRegReg .c .a
  | .ld_D_B => ldRegReg .d .b
  | .ld_D_C => ldRegReg .d .c
  | .ld_D_D => ldRegReg .d .d
  | .ld_D_E => ldRegReg .d .e
  | .ld_D_H => ldRegReg .d .h
  | .ld_D_L => ldRegReg .d .l
  | .ld_D_atHL => ldRegAtHL .d
  | .ld_D_A => ldRegReg .d .a
  | .ld_E_B => ldRegReg .e .b
  | .ld_E_C => ldRegReg .e .c
  | .ld_E_D => ldRegReg .e .d
  | .ld_E_E => ldRegReg .e .e
  | .ld_E_H => ldRegReg .e .h
  | .ld_E_L => ldRegReg .e .l
  | .ld_E_atHL => ldRegAtHL .e
  | .ld_E_A => ldRegReg .e .a
  | .ld_H_B => ldRegReg .h .b
  | .ld_H_C => ldRegReg .h .c
  | .ld_H_D => ldRegReg .h .d
  | .ld_H_E => ldRegReg .h .e
  | .ld_H_H => ldRegReg .h .h
  | .ld_H_L => ldRegReg .h .l
  | .ld_H_atHL => ldRegAtHL .h
  | .ld_H_A => ldRegReg .h .a
  | .ld_L_B => ldRegReg .l .b
  | .ld_L_C => ldRegReg .l .c
  | .ld_L_D => ldRegReg .l .d
  | .ld_L_E => ldRegReg .l .e
  | .ld_L_H => ldRegReg .l .h
  | .ld_L_L => ldRegReg .l .l
  | .ld_L_atHL => ldRegAtHL .l
  | .ld_L_A => ldRegReg .l .a
  | .ld_atHL_B => ldAtHLReg .b
  | .ld_atHL_C => ldAtHLReg .c
  | .ld_atHL_D => ldAtHLReg .d
  | .ld_atHL_E => ldAtHLReg .e
  | .ld_atHL_H => ldAtHLReg .h
  | .ld_atHL_L => ldAtHLReg .l
  | .halt => halt
  | .ld_atHL_A => ldAtHLReg .a
  | .ld_A_B => ldRegReg .a .b
  | .ld_A_C => ldRegReg .a .c
  | .ld_A_D => ldRegReg .a .d
  | .ld_A_E => ldRegReg .a .e
  | .ld_A_H => ldRegReg .a .h
  | .ld_A_L => ldRegReg .a .l
  | .ld_A_atHL => ldRegAtHL .a
  | .ld_A_A => ldRegReg .a .a
  | .add_A_B => alu .add (.reg .b)
  | .add_A_C => alu .add (.reg .c)
  | .add_A_D => alu .add (.reg .d)
  | .add_A_E => alu .add (.reg .e)
  | .add_A_H => alu .add (.reg .h)
  | .add_A_L => alu .add (.reg .l)
  | .add_A_atHL => alu .add .atHL
  | .add_A_A => alu .add (.reg .a)
  | .adc_A_B => alu .adc (.reg .b)
  | .adc_A_C => alu .adc (.reg .c)
  | .adc_A_D => alu .adc (.reg .d)
  | .adc_A_E => alu .adc (.reg .e)
  | .adc_A_H => alu .adc (.reg .h)
  | .adc_A_L => alu .adc (.reg .l)
  | .adc_A_atHL => alu .adc .atHL
  | .adc_A_A => alu .adc (.reg .a)
  | .sub_A_B => alu .sub (.reg .b)
  | .sub_A_C => alu .sub (.reg .c)
  | .sub_A_D => alu .sub (.reg .d)
  | .sub_A_E => alu .sub (.reg .e)
  | .sub_A_H => alu .sub (.reg .h)
  | .sub_A_L => alu .sub (.reg .l)
  | .sub_A_atHL => alu .sub .atHL
  | .sub_A_A => alu .sub (.reg .a)
  | .sbc_A_B => alu .sbc (.reg .b)
  | .sbc_A_C => alu .sbc (.reg .c)
  | .sbc_A_D => alu .sbc (.reg .d)
  | .sbc_A_E => alu .sbc (.reg .e)
  | .sbc_A_H => alu .sbc (.reg .h)
  | .sbc_A_L => alu .sbc (.reg .l)
  | .sbc_A_atHL => alu .sbc .atHL
  | .sbc_A_A => alu .sbc (.reg .a)
  | .and_A_B => alu .and (.reg .b)
  | .and_A_C => alu .and (.reg .c)
  | .and_A_D => alu .and (.reg .d)
  | .and_A_E => alu .and (.reg .e)
  | .and_A_H => alu .and (.reg .h)
  | .and_A_L => alu .and (.reg .l)
  | .and_A_atHL => alu .and .atHL
  | .and_A_A => alu .and (.reg .a)
  | .xor_A_B => alu .xor (.reg .b)
  | .xor_A_C => alu .xor (.reg .c)
  | .xor_A_D => alu .xor (.reg .d)
  | .xor_A_E => alu .xor (.reg .e)
  | .xor_A_H => alu .xor (.reg .h)
  | .xor_A_L => alu .xor (.reg .l)
  | .xor_A_atHL => alu .xor .atHL
  | .xor_A_A => alu .xor (.reg .a)
  | .or_A_B => alu .or (.reg .b)
  | .or_A_C => alu .or (.reg .c)
  | .or_A_D => alu .or (.reg .d)
  | .or_A_E => alu .or (.reg .e)
  | .or_A_H => alu .or (.reg .h)
  | .or_A_L => alu .or (.reg .l)
  | .or_A_atHL => alu .or .atHL
  | .or_A_A => alu .or (.reg .a)
  | .cp_A_B => alu .cp (.reg .b)
  | .cp_A_C => alu .cp (.reg .c)
  | .cp_A_D => alu .cp (.reg .d)
  | .cp_A_E => alu .cp (.reg .e)
  | .cp_A_H => alu .cp (.reg .h)
  | .cp_A_L => alu .cp (.reg .l)
  | .cp_A_atHL => alu .cp .atHL
  | .cp_A_A => alu .cp (.reg .a)
  | .ret_NZ => retCond .nz
  | .pop_BC => pop .bc
  | .jp_NZ_nn nn => jumpCond .nz nn
  | .jp_nn nn => jump nn
  | .call_NZ_nn nn => callCond .nz nn
  | .push_BC => push .bc
  | .add_A_n n => aluImm .add n
  | .rst_00H => rst 0
  | .ret_Z => retCond .z
  | .ret => ret
  | .jp_Z_nn nn => jumpCond .z nn
  | .call_Z_nn nn => callCond .z nn
  | .call_nn nn => call nn
  | .adc_A_n n => aluImm .adc n
  | .rst_08H => rst 1
  | .ret_NC => retCond .nc
  | .pop_DE => pop .de
  | .jp_NC_nn nn => jumpCond .nc nn
  | .illegal_D3 => illegal _ 0xD3 rfl
  | .call_NC_nn nn => callCond .nc nn
  | .push_DE => push .de
  | .sub_A_n n => aluImm .sub n
  | .rst_10H => rst 2
  | .ret_C => retCond .c
  | .reti => reti
  | .jp_C_nn nn => jumpCond .c nn
  | .illegal_DB => illegal _ 0xDB rfl
  | .call_C_nn nn => callCond .c nn
  | .illegal_DD => illegal _ 0xDD rfl
  | .sbc_A_n n => aluImm .sbc n
  | .rst_18H => rst 3
  | .ldh_atN_A n => ldhStoreA n
  | .pop_HL => pop .hl
  | .ld_atC_A => ldHighCA
  | .illegal_E3 => illegal _ 0xE3 rfl
  | .illegal_E4 => illegal _ 0xE4 rfl
  | .push_HL => push .hl
  | .and_A_n n => aluImm .and n
  | .rst_20H => rst 4
  | .add_SP_e e => addSP e
  | .jp_HL => jumpHL
  | .ld_atNn_A nn => ldAbsA nn
  | .illegal_EB => illegal _ 0xEB rfl
  | .illegal_EC => illegal _ 0xEC rfl
  | .illegal_ED => illegal _ 0xED rfl
  | .xor_A_n n => aluImm .xor n
  | .rst_28H => rst 5
  | .ldh_A_atN n => ldhA n
  | .pop_AF => pop .af
  | .ld_A_atC => ldAHighC
  | .di => di
  | .illegal_F4 => illegal _ 0xF4 rfl
  | .push_AF => push .af
  | .or_A_n n => aluImm .or n
  | .rst_30H => rst 6
  | .ld_HL_SPplusE e => ldHLSPPlus e
  | .ld_SP_HL => ldSPHL
  | .ld_A_atNn nn => ldAAbs nn
  | .ei => ei
  | .illegal_FC => illegal _ 0xFC rfl
  | .illegal_FD => illegal _ 0xFD rfl
  | .cp_A_n n => aluImm .cp n
  | .rst_38H => rst 7
  | .rlc_B => rot .rlc (.reg .b)
  | .rlc_C => rot .rlc (.reg .c)
  | .rlc_D => rot .rlc (.reg .d)
  | .rlc_E => rot .rlc (.reg .e)
  | .rlc_H => rot .rlc (.reg .h)
  | .rlc_L => rot .rlc (.reg .l)
  | .rlc_atHL => rot .rlc .atHL
  | .rlc_A => rot .rlc (.reg .a)
  | .rrc_B => rot .rrc (.reg .b)
  | .rrc_C => rot .rrc (.reg .c)
  | .rrc_D => rot .rrc (.reg .d)
  | .rrc_E => rot .rrc (.reg .e)
  | .rrc_H => rot .rrc (.reg .h)
  | .rrc_L => rot .rrc (.reg .l)
  | .rrc_atHL => rot .rrc .atHL
  | .rrc_A => rot .rrc (.reg .a)
  | .rl_B => rot .rl (.reg .b)
  | .rl_C => rot .rl (.reg .c)
  | .rl_D => rot .rl (.reg .d)
  | .rl_E => rot .rl (.reg .e)
  | .rl_H => rot .rl (.reg .h)
  | .rl_L => rot .rl (.reg .l)
  | .rl_atHL => rot .rl .atHL
  | .rl_A => rot .rl (.reg .a)
  | .rr_B => rot .rr (.reg .b)
  | .rr_C => rot .rr (.reg .c)
  | .rr_D => rot .rr (.reg .d)
  | .rr_E => rot .rr (.reg .e)
  | .rr_H => rot .rr (.reg .h)
  | .rr_L => rot .rr (.reg .l)
  | .rr_atHL => rot .rr .atHL
  | .rr_A => rot .rr (.reg .a)
  | .sla_B => rot .sla (.reg .b)
  | .sla_C => rot .sla (.reg .c)
  | .sla_D => rot .sla (.reg .d)
  | .sla_E => rot .sla (.reg .e)
  | .sla_H => rot .sla (.reg .h)
  | .sla_L => rot .sla (.reg .l)
  | .sla_atHL => rot .sla .atHL
  | .sla_A => rot .sla (.reg .a)
  | .sra_B => rot .sra (.reg .b)
  | .sra_C => rot .sra (.reg .c)
  | .sra_D => rot .sra (.reg .d)
  | .sra_E => rot .sra (.reg .e)
  | .sra_H => rot .sra (.reg .h)
  | .sra_L => rot .sra (.reg .l)
  | .sra_atHL => rot .sra .atHL
  | .sra_A => rot .sra (.reg .a)
  | .swap_B => rot .swap (.reg .b)
  | .swap_C => rot .swap (.reg .c)
  | .swap_D => rot .swap (.reg .d)
  | .swap_E => rot .swap (.reg .e)
  | .swap_H => rot .swap (.reg .h)
  | .swap_L => rot .swap (.reg .l)
  | .swap_atHL => rot .swap .atHL
  | .swap_A => rot .swap (.reg .a)
  | .srl_B => rot .srl (.reg .b)
  | .srl_C => rot .srl (.reg .c)
  | .srl_D => rot .srl (.reg .d)
  | .srl_E => rot .srl (.reg .e)
  | .srl_H => rot .srl (.reg .h)
  | .srl_L => rot .srl (.reg .l)
  | .srl_atHL => rot .srl .atHL
  | .srl_A => rot .srl (.reg .a)
  | .bit_0_B => bitTest 0 (.reg .b)
  | .bit_0_C => bitTest 0 (.reg .c)
  | .bit_0_D => bitTest 0 (.reg .d)
  | .bit_0_E => bitTest 0 (.reg .e)
  | .bit_0_H => bitTest 0 (.reg .h)
  | .bit_0_L => bitTest 0 (.reg .l)
  | .bit_0_atHL => bitTest 0 .atHL
  | .bit_0_A => bitTest 0 (.reg .a)
  | .bit_1_B => bitTest 1 (.reg .b)
  | .bit_1_C => bitTest 1 (.reg .c)
  | .bit_1_D => bitTest 1 (.reg .d)
  | .bit_1_E => bitTest 1 (.reg .e)
  | .bit_1_H => bitTest 1 (.reg .h)
  | .bit_1_L => bitTest 1 (.reg .l)
  | .bit_1_atHL => bitTest 1 .atHL
  | .bit_1_A => bitTest 1 (.reg .a)
  | .bit_2_B => bitTest 2 (.reg .b)
  | .bit_2_C => bitTest 2 (.reg .c)
  | .bit_2_D => bitTest 2 (.reg .d)
  | .bit_2_E => bitTest 2 (.reg .e)
  | .bit_2_H => bitTest 2 (.reg .h)
  | .bit_2_L => bitTest 2 (.reg .l)
  | .bit_2_atHL => bitTest 2 .atHL
  | .bit_2_A => bitTest 2 (.reg .a)
  | .bit_3_B => bitTest 3 (.reg .b)
  | .bit_3_C => bitTest 3 (.reg .c)
  | .bit_3_D => bitTest 3 (.reg .d)
  | .bit_3_E => bitTest 3 (.reg .e)
  | .bit_3_H => bitTest 3 (.reg .h)
  | .bit_3_L => bitTest 3 (.reg .l)
  | .bit_3_atHL => bitTest 3 .atHL
  | .bit_3_A => bitTest 3 (.reg .a)
  | .bit_4_B => bitTest 4 (.reg .b)
  | .bit_4_C => bitTest 4 (.reg .c)
  | .bit_4_D => bitTest 4 (.reg .d)
  | .bit_4_E => bitTest 4 (.reg .e)
  | .bit_4_H => bitTest 4 (.reg .h)
  | .bit_4_L => bitTest 4 (.reg .l)
  | .bit_4_atHL => bitTest 4 .atHL
  | .bit_4_A => bitTest 4 (.reg .a)
  | .bit_5_B => bitTest 5 (.reg .b)
  | .bit_5_C => bitTest 5 (.reg .c)
  | .bit_5_D => bitTest 5 (.reg .d)
  | .bit_5_E => bitTest 5 (.reg .e)
  | .bit_5_H => bitTest 5 (.reg .h)
  | .bit_5_L => bitTest 5 (.reg .l)
  | .bit_5_atHL => bitTest 5 .atHL
  | .bit_5_A => bitTest 5 (.reg .a)
  | .bit_6_B => bitTest 6 (.reg .b)
  | .bit_6_C => bitTest 6 (.reg .c)
  | .bit_6_D => bitTest 6 (.reg .d)
  | .bit_6_E => bitTest 6 (.reg .e)
  | .bit_6_H => bitTest 6 (.reg .h)
  | .bit_6_L => bitTest 6 (.reg .l)
  | .bit_6_atHL => bitTest 6 .atHL
  | .bit_6_A => bitTest 6 (.reg .a)
  | .bit_7_B => bitTest 7 (.reg .b)
  | .bit_7_C => bitTest 7 (.reg .c)
  | .bit_7_D => bitTest 7 (.reg .d)
  | .bit_7_E => bitTest 7 (.reg .e)
  | .bit_7_H => bitTest 7 (.reg .h)
  | .bit_7_L => bitTest 7 (.reg .l)
  | .bit_7_atHL => bitTest 7 .atHL
  | .bit_7_A => bitTest 7 (.reg .a)
  | .res_0_B => bitReset 0 (.reg .b)
  | .res_0_C => bitReset 0 (.reg .c)
  | .res_0_D => bitReset 0 (.reg .d)
  | .res_0_E => bitReset 0 (.reg .e)
  | .res_0_H => bitReset 0 (.reg .h)
  | .res_0_L => bitReset 0 (.reg .l)
  | .res_0_atHL => bitReset 0 .atHL
  | .res_0_A => bitReset 0 (.reg .a)
  | .res_1_B => bitReset 1 (.reg .b)
  | .res_1_C => bitReset 1 (.reg .c)
  | .res_1_D => bitReset 1 (.reg .d)
  | .res_1_E => bitReset 1 (.reg .e)
  | .res_1_H => bitReset 1 (.reg .h)
  | .res_1_L => bitReset 1 (.reg .l)
  | .res_1_atHL => bitReset 1 .atHL
  | .res_1_A => bitReset 1 (.reg .a)
  | .res_2_B => bitReset 2 (.reg .b)
  | .res_2_C => bitReset 2 (.reg .c)
  | .res_2_D => bitReset 2 (.reg .d)
  | .res_2_E => bitReset 2 (.reg .e)
  | .res_2_H => bitReset 2 (.reg .h)
  | .res_2_L => bitReset 2 (.reg .l)
  | .res_2_atHL => bitReset 2 .atHL
  | .res_2_A => bitReset 2 (.reg .a)
  | .res_3_B => bitReset 3 (.reg .b)
  | .res_3_C => bitReset 3 (.reg .c)
  | .res_3_D => bitReset 3 (.reg .d)
  | .res_3_E => bitReset 3 (.reg .e)
  | .res_3_H => bitReset 3 (.reg .h)
  | .res_3_L => bitReset 3 (.reg .l)
  | .res_3_atHL => bitReset 3 .atHL
  | .res_3_A => bitReset 3 (.reg .a)
  | .res_4_B => bitReset 4 (.reg .b)
  | .res_4_C => bitReset 4 (.reg .c)
  | .res_4_D => bitReset 4 (.reg .d)
  | .res_4_E => bitReset 4 (.reg .e)
  | .res_4_H => bitReset 4 (.reg .h)
  | .res_4_L => bitReset 4 (.reg .l)
  | .res_4_atHL => bitReset 4 .atHL
  | .res_4_A => bitReset 4 (.reg .a)
  | .res_5_B => bitReset 5 (.reg .b)
  | .res_5_C => bitReset 5 (.reg .c)
  | .res_5_D => bitReset 5 (.reg .d)
  | .res_5_E => bitReset 5 (.reg .e)
  | .res_5_H => bitReset 5 (.reg .h)
  | .res_5_L => bitReset 5 (.reg .l)
  | .res_5_atHL => bitReset 5 .atHL
  | .res_5_A => bitReset 5 (.reg .a)
  | .res_6_B => bitReset 6 (.reg .b)
  | .res_6_C => bitReset 6 (.reg .c)
  | .res_6_D => bitReset 6 (.reg .d)
  | .res_6_E => bitReset 6 (.reg .e)
  | .res_6_H => bitReset 6 (.reg .h)
  | .res_6_L => bitReset 6 (.reg .l)
  | .res_6_atHL => bitReset 6 .atHL
  | .res_6_A => bitReset 6 (.reg .a)
  | .res_7_B => bitReset 7 (.reg .b)
  | .res_7_C => bitReset 7 (.reg .c)
  | .res_7_D => bitReset 7 (.reg .d)
  | .res_7_E => bitReset 7 (.reg .e)
  | .res_7_H => bitReset 7 (.reg .h)
  | .res_7_L => bitReset 7 (.reg .l)
  | .res_7_atHL => bitReset 7 .atHL
  | .res_7_A => bitReset 7 (.reg .a)
  | .set_0_B => bitSet 0 (.reg .b)
  | .set_0_C => bitSet 0 (.reg .c)
  | .set_0_D => bitSet 0 (.reg .d)
  | .set_0_E => bitSet 0 (.reg .e)
  | .set_0_H => bitSet 0 (.reg .h)
  | .set_0_L => bitSet 0 (.reg .l)
  | .set_0_atHL => bitSet 0 .atHL
  | .set_0_A => bitSet 0 (.reg .a)
  | .set_1_B => bitSet 1 (.reg .b)
  | .set_1_C => bitSet 1 (.reg .c)
  | .set_1_D => bitSet 1 (.reg .d)
  | .set_1_E => bitSet 1 (.reg .e)
  | .set_1_H => bitSet 1 (.reg .h)
  | .set_1_L => bitSet 1 (.reg .l)
  | .set_1_atHL => bitSet 1 .atHL
  | .set_1_A => bitSet 1 (.reg .a)
  | .set_2_B => bitSet 2 (.reg .b)
  | .set_2_C => bitSet 2 (.reg .c)
  | .set_2_D => bitSet 2 (.reg .d)
  | .set_2_E => bitSet 2 (.reg .e)
  | .set_2_H => bitSet 2 (.reg .h)
  | .set_2_L => bitSet 2 (.reg .l)
  | .set_2_atHL => bitSet 2 .atHL
  | .set_2_A => bitSet 2 (.reg .a)
  | .set_3_B => bitSet 3 (.reg .b)
  | .set_3_C => bitSet 3 (.reg .c)
  | .set_3_D => bitSet 3 (.reg .d)
  | .set_3_E => bitSet 3 (.reg .e)
  | .set_3_H => bitSet 3 (.reg .h)
  | .set_3_L => bitSet 3 (.reg .l)
  | .set_3_atHL => bitSet 3 .atHL
  | .set_3_A => bitSet 3 (.reg .a)
  | .set_4_B => bitSet 4 (.reg .b)
  | .set_4_C => bitSet 4 (.reg .c)
  | .set_4_D => bitSet 4 (.reg .d)
  | .set_4_E => bitSet 4 (.reg .e)
  | .set_4_H => bitSet 4 (.reg .h)
  | .set_4_L => bitSet 4 (.reg .l)
  | .set_4_atHL => bitSet 4 .atHL
  | .set_4_A => bitSet 4 (.reg .a)
  | .set_5_B => bitSet 5 (.reg .b)
  | .set_5_C => bitSet 5 (.reg .c)
  | .set_5_D => bitSet 5 (.reg .d)
  | .set_5_E => bitSet 5 (.reg .e)
  | .set_5_H => bitSet 5 (.reg .h)
  | .set_5_L => bitSet 5 (.reg .l)
  | .set_5_atHL => bitSet 5 .atHL
  | .set_5_A => bitSet 5 (.reg .a)
  | .set_6_B => bitSet 6 (.reg .b)
  | .set_6_C => bitSet 6 (.reg .c)
  | .set_6_D => bitSet 6 (.reg .d)
  | .set_6_E => bitSet 6 (.reg .e)
  | .set_6_H => bitSet 6 (.reg .h)
  | .set_6_L => bitSet 6 (.reg .l)
  | .set_6_atHL => bitSet 6 .atHL
  | .set_6_A => bitSet 6 (.reg .a)
  | .set_7_B => bitSet 7 (.reg .b)
  | .set_7_C => bitSet 7 (.reg .c)
  | .set_7_D => bitSet 7 (.reg .d)
  | .set_7_E => bitSet 7 (.reg .e)
  | .set_7_H => bitSet 7 (.reg .h)
  | .set_7_L => bitSet 7 (.reg .l)
  | .set_7_atHL => bitSet 7 .atHL
  | .set_7_A => bitSet 7 (.reg .a)

end Sys2Proof.Machine
end

