-- ==== Sys2Proof/Laws/Frames.lean ====
section
/-! SUPPORT. The frames of the shared operations: what an update of the register file alone leaves, what a store leaves, and what a push
and a pop leave. -/

namespace Sys2Proof.Machine

open Sys2Proof

/-- An update of the register file and the cost leaves the rest of the machine and every byte of memory. -/
theorem SameOutside.withRegs (s : State) (g : Regs) (n : Nat) : SameOutside s { s with regs := g, cycles := n } :=
  ⟨⟨rfl, rfl, rfl, rfl, rfl, rfl⟩, ⟨rfl, rfl, rfl, rfl, rfl, rfl, rfl⟩, State.busRead_congr ⟨rfl, rfl, rfl, rfl, rfl, rfl, rfl⟩ rfl⟩

theorem SameDevices.refl (s : State) : SameDevices s s := ⟨rfl, rfl, rfl, rfl, rfl, rfl, rfl⟩

/-- An update of the register file and the cost leaves the devices. -/
theorem SameDevices.withRegs (s : State) (g : Regs) (n : Nat) : SameDevices s { s with regs := g, cycles := n } :=
  ⟨rfl, rfl, rfl, rfl, rfl, rfl, rfl⟩

theorem SameDevices.trans {s t u : State} (h : SameDevices s t) (h' : SameDevices t u) : SameDevices s u := by
  obtain ⟨h1, h2, h3, h4, h5, h6, h7⟩ := h
  obtain ⟨g1, g2, g3, g4, g5, g6, g7⟩ := h'
  exact ⟨g1.trans h1, g2.trans h2, g3.trans h3, g4.trans h4, g5.trans h5, g6.trans h6, g7.trans h7⟩

/-- A bus write does to the devices what it does from any state with the same devices and parameters. -/
theorem SameDevices.busWrite {s t : State} (h : SameDevices s t) (hp : t.params = s.params) (a : Word) (v : Byte) :
    SameDevices (s.busWrite a v) (t.busWrite a v) := by
  have key : ∀ s : State, ∀ g i e hl f c n, SameDevices (s.busWrite a v)
      (State.busWrite { s with regs := g, ime := i, eiPending := e, halted := hl, fault := f, cycles := c, totalCycles := n } a v) := by
    intro s g i e hl f c n
    have hd : ∀ (base m k : Nat) (s t : State), SameDevices s t → t.params = s.params →
        SameDevices (State.dmaCopy base m k s) (State.dmaCopy base m k t) := by
      intro base m
      induction m with
      | zero => exact fun _ _ _ h _ => h
      | succ m ih =>
        intro k s t h hp
        rw [State.dmaCopy, State.dmaCopy]
        refine ih _ _ _ ?_ hp
        rw [State.busRead_congr h hp]
        obtain ⟨h1, h2, h3, h4, h5, h6, h7⟩ := h
        exact ⟨h1, h2, h3, h4, h5, by rw [State.poke_mem, State.poke_mem, h6], h7⟩
    unfold State.busWrite
    cases regionOf a <;> dsimp only
    case vram =>
      show SameDevices (if s.vramBlocked then s else _) (if s.vramBlocked then _ else _)
      split <;> exact ⟨rfl, rfl, rfl, rfl, rfl, rfl, rfl⟩
    case oam =>
      show SameDevices (if s.oamBlocked then s else _) (if s.oamBlocked then _ else _)
      split <;> exact ⟨rfl, rfl, rfl, rfl, rfl, rfl, rfl⟩
    case io =>
      unfold State.ioWrite
      cases ioRegOf a <;> dsimp only
      case dma => exact hd _ _ _ _ _ ⟨rfl, rfl, rfl, rfl, rfl, rfl, rfl⟩ rfl
      all_goals exact ⟨rfl, rfl, rfl, rfl, rfl, rfl, rfl⟩
    all_goals exact ⟨rfl, rfl, rfl, rfl, rfl, rfl, rfl⟩
  have ht : t = { s with
      regs := t.regs, ime := t.ime, eiPending := t.eiPending, halted := t.halted, fault := t.fault, cycles := t.cycles, totalCycles := t.totalCycles } := by
    obtain ⟨h1, h2, h3, h4, h5, h6, h7⟩ := h
    cases s
    cases t
    dsimp only at *
    subst h1 h2 h3 h4 h5 h6 h7 hp
    rfl
  rw [ht]
  exact key s _ _ _ _ _ _ _

/-- What is plain storage depends on the PPU and the parameters alone. -/
theorem State.plainAt_congr {s t : State} (h : t.ppu = s.ppu) (hp : t.params = s.params) (a : Word) : t.plainAt a ↔ s.plainAt a := by
  have h1 : t.vramBlocked = s.vramBlocked := by unfold State.vramBlocked; rw [h, hp]
  have h2 : t.oamBlocked = s.oamBlocked := by unfold State.oamBlocked; rw [h, hp]
  unfold State.plainAt
  cases regionOf a <;> simp only [h1, h2]

/-- A store to plain storage changes only the store. -/
theorem State.busWrite_plain_onlyMem {s : State} {a : Word} (h : s.plainAt a) (v : Byte) : OnlyMem s (s.busWrite a v) := by
  rw [State.busWrite_plain h]
  rfl

/-- A state whose devices are those after a bus write shows that write: `Stored`. -/
theorem Stored.of_devices {s t : State} {a : Word} {v : Byte} (h : SameDevices (s.busWrite a v) t) (hp : t.params = s.params) :
    Stored a v s t := by
  refine ⟨h, fun hm hpl x => ?_⟩
  rw [State.busRead_congr h (by rw [hp, State.busWrite_params])]
  exact State.busWrite_stored hm hpl v x

/-- A state whose devices are those after two bus writes shows them: `StoredTwo`. -/
theorem StoredTwo.of_devices {s t : State} {a b : Word} {v w : Byte} (h : SameDevices ((s.busWrite a v).busWrite b w) t)
    (hp : t.params = s.params) : StoredTwo a v b w s t := by
  refine ⟨h, fun hm ha hb x => ?_⟩
  rw [State.busRead_congr h (by rw [hp, State.busWrite_params, State.busWrite_params])]
  have hb' : (s.busWrite a v).plainAt b := by
    rw [State.plainAt_congr (s := s) (by rw [State.busWrite_plain_onlyMem ha v]) (State.busWrite_params _ _ _)]
    exact hb
  rw [State.busWrite_stored (State.busWrite_mem_wf hm a v) hb' w x, State.busWrite_stored hm ha v x]

/-- Push16: the two bus writes of the rule, high byte first, and SP lowered by 2 (40_load R200). -/
theorem State.push16_devices (s : State) (v : Word) :
    SameDevices ((s.busWrite (s.regs.sp - 1) (hiByte v)).busWrite (s.regs.sp - 2) (loByte v)) (s.push16 v) := by
  have hsp : (s.regs.sp - 1 - 1 : Word) = s.regs.sp - 2 := by bv_omega
  have h1 : SameDevices (s.busWrite (s.regs.sp - 1) (hiByte v)) ((s.setSp (s.regs.sp - 1)).busWrite (s.regs.sp - 1) (hiByte v)) :=
    SameDevices.busWrite (SameDevices.withRegs s (s.setSp (s.regs.sp - 1)).regs s.cycles) rfl _ _
  have h2 : SameDevices (s.busWrite (s.regs.sp - 1) (hiByte v))
      (((s.setSp (s.regs.sp - 1)).busWrite (s.regs.sp - 1) (hiByte v)).setSp (s.regs.sp - 2)) :=
    h1.trans ⟨rfl, rfl, rfl, rfl, rfl, rfl, rfl⟩
  have h3 := SameDevices.busWrite h2 (by simp) (s.regs.sp - 2) (loByte v)
  have e : s.push16 v =
      (((s.setSp (s.regs.sp - 1)).busWrite (s.regs.sp - 1) (hiByte v)).setSp (s.regs.sp - 2)).busWrite (s.regs.sp - 2) (loByte v) := by
    unfold State.push16
    dsimp only
    rw [State.busWrite_regs, State.setSp_regs]
    dsimp only
    rw [hsp]
  rw [e]
  exact h3

section
variable (s : State) (v : Word)
theorem State.push16_regs : (s.push16 v).regs = { s.regs with sp := s.regs.sp - 2 } := by
  have hsp : (s.regs.sp - 1 - 1 : Word) = s.regs.sp - 2 := by bv_omega
  unfold State.push16
  simp only [State.busWrite_regs, State.setSp_regs, hsp]
@[simp] theorem State.push16_ime : (s.push16 v).ime = s.ime := by unfold State.push16; simp
@[simp] theorem State.push16_eiPending : (s.push16 v).eiPending = s.eiPending := by unfold State.push16; simp
@[simp] theorem State.push16_halted : (s.push16 v).halted = s.halted := by unfold State.push16; simp
@[simp] theorem State.push16_fault : (s.push16 v).fault = s.fault := by unfold State.push16; simp
@[simp] theorem State.push16_cycles : (s.push16 v).cycles = s.cycles := by unfold State.push16; simp
@[simp] theorem State.push16_totalCycles : (s.push16 v).totalCycles = s.totalCycles := by unfold State.push16; simp
@[simp] theorem State.push16_params : (s.push16 v).params = s.params := by unfold State.push16; simp
theorem State.push16_cart_isSome : (s.push16 v).cart.isSome = s.cart.isSome := by
  unfold State.push16
  simp [State.busWrite_cart_isSome]
end

/-- Passing over an instruction leaves the devices. -/
theorem SameDevices.pass (s : State) (len cost : Nat) : SameDevices s (s.pass len cost) := ⟨rfl, rfl, rfl, rfl, rfl, rfl, rfl⟩

/-- A push from a state with the same devices, parameters and SP does the same to the devices. -/
theorem SameDevices.push16 {s t : State} (h : SameDevices s t) (hp : t.params = s.params) (hs : t.regs.sp = s.regs.sp) (v : Word) :
    SameDevices (s.push16 v) (t.push16 v) := by
  refine SameDevices.trans ?_ (State.push16_devices t v)
  rw [hs]
  obtain ⟨h1, h2, h3, h4, h5, h6, h7⟩ := State.push16_devices s v
  obtain ⟨g1, g2, g3, g4, g5, g6, g7⟩ :=
    (h.busWrite hp (s.regs.sp - 1) (hiByte v)).busWrite (by simp [hp]) (s.regs.sp - 2) (loByte v)
  exact ⟨g1.trans h1.symm, g2.trans h2.symm, g3.trans h3.symm, g4.trans h4.symm, g5.trans h5.symm, g6.trans h6.symm, g7.trans h7.symm⟩

/-! From the parts of a next state to its frame. -/

theorem OnlyRegsF.withRegs {rs : List Reg8} (s : State) (g : Regs) (n : Nat)
    (hr : ∀ r, r ∉ rs → State.reg { s with regs := g } r = s.reg r) (hsp : g.sp = s.regs.sp) :
    OnlyRegsF rs s { s with regs := g, cycles := n } :=
  ⟨hr, hsp, SameOutside.withRegs s g n⟩

theorem OnlyRegs.withRegs {rs : List Reg8} (s : State) (g : Regs) (n : Nat)
    (hr : ∀ r, r ∉ rs → State.reg { s with regs := g } r = s.reg r) (hsp : g.sp = s.regs.sp) (hf : g.f = s.regs.f) :
    OnlyRegs rs s { s with regs := g, cycles := n } :=
  ⟨OnlyRegsF.withRegs s g n hr hsp, hf⟩

theorem OnlyPairF.withRegs {p : Reg16} (s : State) (g : Regs) (n : Nat)
    (hr : ∀ r, r ∉ pairHalves p → State.reg { s with regs := g } r = s.reg r) (hsp : p ≠ .sp → g.sp = s.regs.sp) :
    OnlyPairF p s { s with regs := g, cycles := n } :=
  ⟨hr, hsp, SameOutside.withRegs s g n⟩

theorem OnlyStoreF.of_devices {s t : State} {rs : List Reg8} {a : Word} {v : Byte} (hd : SameDevices (s.busWrite a v) t)
    (hp : t.params = s.params) (hr : SameRegs rs s t) (hs : SameSp s t) (hc : SameControl s t) : OnlyStoreF rs a v s t :=
  ⟨hr, hs, hc, Stored.of_devices hd hp⟩

theorem OnlyPush.of_devices {s t : State} {v : Word} (hd : SameDevices (s.push16 v) t) (hp : t.params = s.params)
    (hsp : t.regs.sp = s.regs.sp - 2) (hr : SameRegs [] s t) (hf : SameF s t) (hc : SameControl s t) : OnlyPush v s t :=
  ⟨hsp, StoredTwo.of_devices ((State.push16_devices s v).trans hd) hp, hr, hf, hc⟩

theorem packFlags_low (z n h c : Bool) : packFlags z n h c &&& 0x0F = 0 := by revert z n h c; decide

/-- Writing the four flags leaves exactly them. -/
theorem FlagsAre.setFlags (s : State) (z n h c : Bool) : FlagsAre (s.setFlags z n h c) z n h c :=
  ⟨by simp, by simp, by simp, by simp, packFlags_low ..⟩

/-- A packed F holds its four flags, whatever else the state holds. -/
theorem FlagsAre.of_f {t : State} {z n h c : Bool} (hf : t.regs.f = packFlags z n h c) : FlagsAre t z n h c := by
  have := FlagsAre.setFlags t z n h c
  unfold FlagsAre State.flagZ State.flagN State.flagH State.flagC at *
  rw [hf]
  exact this

end Sys2Proof.Machine
end

