-- ==== Sys2Proof/Laws/Step.lean ====
section
/-! SUPPORT. What a step can do, said once: the start of an engine step, the interrupt service, the inversion of a step, that the bus
keeps the machine well formed, and what no instruction and no step changes. -/

namespace Sys2Proof.Machine

open Sys2Proof

/-- No source is chosen exactly where nothing is pending (60_exceptions R422). -/
theorem lowestSource_none (p : BitVec 5) : lowestSource p = none ↔ p = 0 := by revert p; decide

/-- The chosen source is the lowest pending bit (60_exceptions R402, R422). -/
theorem lowestSource_some (p : BitVec 5) (k : IrqSource) :
    lowestSource p = some k ↔ p.getLsbD k.bit = true ∧ ∀ j < k.bit, p.getLsbD j = false := by
  cases k <;> revert p <;> decide

@[simp] theorem State.wake_pending (s : State) : s.wake.pending = s.pending := rfl

/-- The wake-up ends a halt with a pending enabled request, and else leaves it (60_exceptions R404). -/
theorem State.wake_eq (s : State) :
    s.wake = if s.pending = 0 then { s with cycles := 0 } else { s with cycles := 0, halted := false } := by
  unfold State.wake
  split
  · next h => rw [decide_eq_true h, Bool.and_true]
  · next h => rw [decide_eq_false h, Bool.and_false]

/-- Everything the start of an engine step can answer: a fault of the service, a service, a wait, or the fetch (60_exceptions R401, R402). -/
theorem State.beginStep_cases (s : State) :
    (∃ k, s.ime = true ∧ lowestSource s.pending = some k ∧ s.pushHitsIE = true ∧ s.beginStep = .fault (.servicePushIE s.regs.pc)) ∨
    (∃ k, s.ime = true ∧ lowestSource s.pending = some k ∧ s.pushHitsIE = false ∧
      s.beginStep = .fetch (State.takeInterrupt { s with cycles := 0, halted := false } k)) ∨
    (¬ s.serviceDue ∧ s.waiting ∧ s.beginStep = .wait { s with cycles := 4 }) ∨
    (¬ s.serviceDue ∧ ¬ s.waiting ∧ s.beginStep = .fetch { s with cycles := 0, halted := false }) := by
  have hb : s.beginStep =
      match (if s.ime then lowestSource s.pending else none) with
      | some k => if s.pushHitsIE then .fault (.servicePushIE s.regs.pc) else .fetch (s.wake.takeInterrupt k)
      | none => if s.wake.halted then .wait (s.wake.addCycles 4) else .fetch s.wake := rfl
  rw [hb, State.wake_eq]
  unfold State.serviceDue State.waiting
  by_cases hp : s.pending = 0
  · rw [(lowestSource_none _).2 hp]
    right; right
    simp only [ite_self, hp, if_true]
    by_cases hh : s.halted = true
    · exact .inl ⟨by simp, by simp [hh], by simp [hh, State.addCycles]⟩
    · simp only [Bool.not_eq_true] at hh
      exact .inr ⟨by simp, by simp [hh], by simp only [hh, Bool.false_eq_true, if_false]⟩
  · rw [if_neg hp]
    obtain ⟨k, hk⟩ := Option.ne_none_iff_exists'.1 (fun h => hp ((lowestSource_none _).1 h))
    by_cases hi : s.ime = true
    · simp only [hi, if_true, hk]
      by_cases hie : s.pushHitsIE = true
      · exact .inl ⟨k, trivial, rfl, hie, by simp [hie]⟩
      · simp only [Bool.not_eq_true] at hie
        exact .inr (.inl ⟨k, trivial, rfl, hie, by simp [hie]⟩)
    · rw [if_neg hi]
      right; right; right
      exact ⟨fun h => hi h.1, fun h => hp h.2, rfl⟩

/-- Taking an interrupt: the rule's registers, and the push of pc (60_exceptions R402). -/
theorem State.takeInterrupt_spec (s : State) (k : IrqSource) :
    (s.takeInterrupt k).regs = { s.regs with sp := s.regs.sp - 2, pc := k.vector } ∧ (s.takeInterrupt k).ime = false ∧
    (s.takeInterrupt k).eiPending = false ∧ (s.takeInterrupt k).halted = s.halted ∧ (s.takeInterrupt k).fault = s.fault ∧
    (s.takeInterrupt k).cycles = s.cycles + 20 ∧ (s.takeInterrupt k).totalCycles = s.totalCycles ∧
    (s.takeInterrupt k).params = s.params ∧ (s.takeInterrupt k).cart.isSome = s.cart.isSome ∧
    SameDevices (State.push16 { s with iflag := s.iflag &&& ~~~k.mask } s.regs.pc) (s.takeInterrupt k) := by
  unfold State.takeInterrupt
  dsimp only
  refine ⟨?_, ?_, ?_, ?_, ?_, ?_, ?_, ?_, ?_, ?_⟩
  · show ({ (State.push16 _ _).regs with pc := _ } : Regs) = _
    rw [State.push16_regs]
  · exact State.push16_ime _ _
  · exact State.push16_eiPending _ _
  · exact State.push16_halted _ _
  · exact State.push16_fault _ _
  · show (State.push16 _ _).cycles + 20 = _
    rw [State.push16_cycles]
  · exact State.push16_totalCycles _ _
  · exact State.push16_params _ _
  · exact State.push16_cart_isSome _ _
  · refine (SameDevices.push16 (s := { s with iflag := s.iflag &&& ~~~k.mask })
      (t := { s with iflag := s.iflag &&& ~~~k.mask, ime := false, eiPending := false }) ?_ rfl rfl s.regs.pc).trans ?_
    · exact ⟨rfl, rfl, rfl, rfl, rfl, rfl, rfl⟩
    · generalize State.push16 _ _ = p
      exact SameDevices.withRegs p _ _

/-- Everything a step that answers a next state has done: a wait, or an instruction after the engine's start (60_exceptions R400, R401). -/
theorem step_cases {s t : State} (h : step s = .next t) :
    s.cart ≠ none ∧ s.fault = none ∧
    ((s.waiting ∧ t = State.advanceDevices { s with cycles := 4 }) ∨
     ∃ u w, s.beginStep = .fetch u ∧ exec u.fetchInstr u = .next w ∧ t = (w.promoteEi u.eiPending).advanceDevices) := by
  unfold step at h
  split at h
  · cases h
  · cases h
  · next c hc hf =>
    refine ⟨by simp [hc], hf, ?_⟩
    rcases s.beginStep_cases with ⟨k, -, -, -, hb⟩ | ⟨k, -, -, -, hb⟩ | ⟨-, hw, hb⟩ | ⟨-, -, hb⟩ <;> rw [hb] at h <;> dsimp only at h
    · cases h
    · split at h <;> cases h
      exact .inr ⟨_, _, hb, by assumption, rfl⟩
    · cases h
      exact .inl ⟨hw, rfl⟩
    · split at h <;> cases h
      exact .inr ⟨_, _, hb, by assumption, rfl⟩

/-- A step of a machine that can step, by what its start answers (60_exceptions R400). -/
theorem step_of_ready {s : State} (h : s.ready) :
    step s =
      match s.beginStep with
      | .fault r => .fault r
      | .wait t => .next t.advanceDevices
      | .fetch t =>
        match exec t.fetchInstr t with
        | .next u => .next (u.promoteEi t.eiPending).advanceDevices
        | .fault r => .fault r
        | .refused r => .refused r := by
  obtain ⟨hc, hf⟩ := h
  unfold step
  split
  · exact absurd ‹_› hc
  · next h => rw [hf] at h; cases h
  · rfl

/-! The EI promotion touches IME and ei_pending alone (60_exceptions R403). -/
section
variable (s : State) (armed : Bool)
@[simp] theorem State.promoteEi_regs : (s.promoteEi armed).regs = s.regs := by unfold State.promoteEi; split <;> rfl
@[simp] theorem State.promoteEi_cycles : (s.promoteEi armed).cycles = s.cycles := by unfold State.promoteEi; split <;> rfl
@[simp] theorem State.promoteEi_totalCycles : (s.promoteEi armed).totalCycles = s.totalCycles := by unfold State.promoteEi; split <;> rfl
@[simp] theorem State.promoteEi_params : (s.promoteEi armed).params = s.params := by unfold State.promoteEi; split <;> rfl
@[simp] theorem State.promoteEi_halted : (s.promoteEi armed).halted = s.halted := by unfold State.promoteEi; split <;> rfl
@[simp] theorem State.promoteEi_fault : (s.promoteEi armed).fault = s.fault := by unfold State.promoteEi; split <;> rfl
theorem State.promoteEi_devices : SameDevices s (s.promoteEi armed) := by unfold State.promoteEi; split <;> exact ⟨rfl, rfl, rfl, rfl, rfl, rfl, rfl⟩
theorem State.promoteEi_enables :
    (s.promoteEi armed).ime = (s.ime || (armed && s.eiPending)) ∧ (s.promoteEi armed).eiPending = (s.eiPending && !armed) := by
  unfold State.promoteEi
  cases armed <;> cases h : s.eiPending <;> simp [h]
end

/-! The bus keeps the machine well formed. -/

/-- The well-formedness of a state is that of its registers, its timer, its PPU, its store and its cartridge. -/
theorem State.Wf.of_parts {s t : State} (h : s.Wf) (hr : t.regs.wf) (ht : t.timer = s.timer) (hp : t.ppu = s.ppu) (hm : t.mem = s.mem)
    (hc : t.cart = s.cart) (hq : t.params = s.params) : t.Wf :=
  ⟨hr, by rw [ht, hq]; exact h.timer, by rw [hp]; exact h.ppu, by rw [hm]; exact h.mem, by rw [hc]; exact h.cart⟩

theorem isStored_of_region {a : Word} (h : regionOf a = .vram ∨ regionOf a = .wram ∨ regionOf a = .oam ∨ regionOf a = .hram) :
    isStored a.toNat = true := by
  have hr := regionOf_range a
  unfold isStored isRamAddress
  rcases h with h | h | h | h <;> rw [h] at hr <;> simp only [Region.range] at hr <;> simp <;> omega

theorem isStored_of_echo {a : Word} (h : regionOf a = .echo) : isStored (a.toNat - 0x2000) = true := by
  have hr := regionOf_range a
  unfold isStored isRamAddress
  rw [h] at hr
  simp only [Region.range] at hr
  simp
  omega

theorem isStored_of_file {a : Word} (h : regionOf a = .io) (hf : ioRegOf a = .file) : isStored a.toNat = true := by
  have hr := regionOf_range a
  rw [h] at hr
  simp only [Region.range] at hr
  unfold isStored
  simp only [Bool.or_eq_true, Bool.and_eq_true, decide_eq_true_eq, BitVec.ofNat_toNat, BitVec.setWidth_eq]
  exact .inr ⟨by omega, hf⟩

/-- A write of a stored byte keeps the store's form (10_state R53). -/
theorem storeWf_write {m : Memory} (h : storeWf m) {a : Nat} (ha : isStored a = true) (v : Byte) : storeWf (m.write a v) :=
  ⟨Memory.write_wf h.1 a v, fun c hc => by
    rcases Memory.mem_write hc with rfl | hc
    · exact ha
    · exact h.2 c hc⟩

theorem State.Wf.poke {s : State} (h : s.Wf) {a : Nat} (ha : isStored a = true) (v : Byte) : (s.poke a v).Wf :=
  ⟨h.regs, h.timer, h.ppu, storeWf_write h.mem ha v, h.cart⟩

theorem State.Wf.dmaCopy {s : State} (h : s.Wf) (base n k : Nat) (hk : k + n ≤ 160) : (State.dmaCopy base n k s).Wf := by
  induction n generalizing k s with
  | zero => exact h
  | succ n ih =>
    refine ih (h.poke ?_ _) (k + 1) (by omega)
    unfold isStored isRamAddress
    simp
    omega

/-- A write to LCDC keeps the ranges of the PPU's state (60_exceptions R461). -/
theorem Ppu.Wf.writeLcdc {p : Ppu} (h : p.Wf) (v : Byte) : (p.writeLcdc v).Wf := by
  have hof : ∀ m w, Ppu.Wf { p with lcdc := v, ly := 0, dots := 0, mode := m, wline := 0, winDrawn := w } ↔
      (m ≠ .vblank ∧ (w = true → m = .hblank) ∧ (bitOf v 7 = false → m = .hblank ∧ w = false)) := by
    intro m w
    constructor
    · intro g
      refine ⟨fun e => ?_, g.drawn, fun hv => ?_⟩
      · have : 144 ≤ (0#8).toNat := g.vblank.1 e
        exact absurd this (by decide)
      · have := g.off hv
        exact ⟨this.1, this.2.2.2.2⟩
    · rintro ⟨h1, h2, h3⟩
      refine ⟨?_, by show (0#8).toNat ≤ 153; decide, ?_, by show 0 ≤ (0#8).toNat ∧ 0 ≤ 144; decide, h2, ?_, h.sprites, h.frame⟩
      · show 0 < m.budget
        cases m <;> decide
      · show m = .vblank ↔ 144 ≤ (0#8).toNat
        simp [h1]
      · intro hv
        exact ⟨(h3 hv).1, rfl, rfl, rfl, (h3 hv).2⟩
  unfold Ppu.writeLcdc
  split
  · exact (hof _ _).2 ⟨nofun, nofun, fun _ => ⟨rfl, rfl⟩⟩
  · split
    · next hv =>
      simp only [Bool.and_eq_true] at hv
      exact (hof _ _).2 ⟨nofun, nofun, fun hw => absurd hv.2 (by simp [hw])⟩
    · next h1 h2 =>
      refine ⟨h.dots, h.line, h.vblank, h.window, h.drawn, fun hv => h.off ?_, h.sprites, h.frame⟩
      have hv : bitOf v 7 = false := hv
      simp only [hv, Bool.not_false, Bool.and_true, Bool.not_eq_true] at h1
      exact h1

theorem Cart.Wf.writeRom {c : Cart} (h : c.Wf) (a : Nat) (v : Byte) : (c.writeRom a v).Wf := by
  unfold Cart.writeRom
  split
  · exact h
  · next b hb =>
    refine ⟨h.length, h.image, h.ram, fun b' hb' => ?_⟩
    cases hb'
    have := h.bank b hb
    unfold Mbc1.select
    split_ifs <;> first | exact this | skip
    · show (1 : BitVec 5) ≠ 0
      decide
    · assumption

theorem Cart.Wf.writeRam {c : Cart} (h : c.Wf) (a : Nat) (v : Byte) : (c.writeRam a v).Wf := by
  unfold Cart.writeRam
  split
  · next k hk =>
    have hk' : k < c.ramSize := by
      unfold Cart.ramOffset at hk
      split at hk
      · cases hk
      · split at hk
        · next hb =>
          simp only [Bool.and_eq_true, decide_eq_true_eq] at hb
          rw [← Option.some.inj hk]
          exact Nat.mod_lt _ hb.2
        · cases hk
    exact ⟨h.length, h.image, ⟨Memory.write_wf h.ram.1 k v, fun d hd => by
      rcases Memory.mem_write hd with rfl | hd
      · exact hk'
      · exact h.ram.2 d hd⟩, h.bank⟩
  · exact h

theorem State.Wf.mapCart {s : State} (h : s.Wf) (f : Cart → Cart) (hf : ∀ c : Cart, c.Wf → (f c).Wf) : (s.mapCart f).Wf := by
  refine ⟨h.regs, h.timer, h.ppu, h.mem, fun c hc => ?_⟩
  obtain ⟨d, hd, rfl⟩ := Option.map_eq_some_iff.1 hc
  exact hf d (h.cart d hd)

theorem State.Wf.mapPpu {s : State} (h : s.Wf) (f : Ppu → Ppu) (hf : (f s.ppu).Wf) : (s.mapPpu f).Wf :=
  ⟨h.regs, h.timer, hf, h.mem, h.cart⟩

/-- A change of a PPU register that no range depends on. -/
theorem Ppu.Wf.of_parts {p q : Ppu} (h : p.Wf) (h1 : q.lcdc = p.lcdc) (h2 : q.ly = p.ly) (h3 : q.mode = p.mode) (h4 : q.dots = p.dots)
    (h5 : q.wline = p.wline) (h6 : q.winDrawn = p.winDrawn) (h7 : q.sprites = p.sprites) (h8 : q.fb = p.fb) : q.Wf := by
  have hon : q.lcdOn = p.lcdOn := by unfold Ppu.lcdOn; rw [h1]
  refine ⟨?_, ?_, ?_, ?_, ?_, ?_, ?_, ?_⟩
  · rw [h4, h3]; exact h.dots
  · rw [h2]; exact h.line
  · rw [h3, h2]; exact h.vblank
  · rw [h5, h2]; exact h.window
  · rw [h6, h3]; exact h.drawn
  · rw [hon, h3, h2, h4, h5, h6]; exact h.off
  · rw [h7]; exact h.sprites
  · rw [h8]; exact h.frame

/-- A bus write keeps the machine well formed (20_memory R101, R110, R111). -/
theorem State.Wf.busWrite {s : State} (h : s.Wf) (a : Word) (v : Byte) : (s.busWrite a v).Wf := by
  unfold State.busWrite
  cases hreg : regionOf a <;> dsimp only
  case rom => exact h.mapCart _ fun c hc => hc.writeRom _ _
  case vram =>
    split
    · exact h
    · exact h.poke (isStored_of_region (.inl hreg)) v
  case saveRam => exact h.mapCart _ fun c hc => hc.writeRam _ _
  case wram => exact h.poke (isStored_of_region (.inr (.inl hreg))) v
  case echo => exact h.poke (isStored_of_echo hreg) v
  case oam =>
    split
    · exact h
    · exact h.poke (isStored_of_region (.inr (.inr (.inl hreg)))) v
  case unusable => exact h
  case io =>
    unfold State.ioWrite
    cases hio : ioRegOf a <;> dsimp only
    case p1 => exact h.of_parts h.regs rfl rfl rfl rfl rfl
    case div => exact ⟨h.regs, h.timer, h.ppu, h.mem, h.cart⟩
    case tima => exact ⟨h.regs, ⟨h.timer.1, Nat.zero_le _⟩, h.ppu, h.mem, h.cart⟩
    case tma => exact ⟨h.regs, h.timer, h.ppu, h.mem, h.cart⟩
    case tac => exact ⟨h.regs, ⟨Timer.period_pos _, h.timer.2⟩, h.ppu, h.mem, h.cart⟩
    case iflag => exact h.of_parts h.regs rfl rfl rfl rfl rfl
    case lcdc => exact h.mapPpu _ (h.ppu.writeLcdc v)
    case ly => exact h
    case dma => exact (h.mapPpu _ (h.ppu.of_parts rfl rfl rfl rfl rfl rfl rfl rfl)).dmaCopy _ _ _ (by decide)
    case file => exact h.poke (isStored_of_file hreg hio) v
    all_goals exact h.mapPpu _ (h.ppu.of_parts rfl rfl rfl rfl rfl rfl rfl rfl)
  case hram => exact h.poke (isStored_of_region (.inr (.inr (.inr hreg)))) v
  case ie => exact h.of_parts h.regs rfl rfl rfl rfl rfl

/-- Two states with the same devices and parameters are both well formed, given F's low bits. -/
theorem State.Wf.of_devices {s t : State} (h : s.Wf) (hd : SameDevices s t) (hq : t.params = s.params) (hr : t.regs.wf) : t.Wf :=
  h.of_parts hr hd.2.2.1 hd.2.2.2.1 hd.2.2.2.2.2.1 hd.2.2.2.2.2.2 hq

/-- A push keeps the machine well formed (40_load R200). -/
theorem State.Wf.push16 {s : State} (h : s.Wf) (v : Word) : (s.push16 v).Wf := by
  refine ((h.busWrite _ _).busWrite _ _).of_devices (State.push16_devices s v) (by simp) ?_
  rw [State.push16_regs]
  exact h.regs

/-- The advance of the devices keeps the machine well formed (60_exceptions R400). -/
theorem State.Wf.advanceDevices {s : State} (h : s.Wf) : s.advanceDevices.Wf := by
  refine ⟨by rw [State.advanceDevices_regs]; exact h.regs, ?_, ?_, by rw [State.advanceDevices_mem]; exact h.mem,
    by rw [State.advanceDevices_cart]; exact h.cart⟩
  · rw [State.advanceDevices_timer, State.advanceDevices_params]
    exact Timer.advance_wf h.timer
  · show ((s.timerAdvance s.cycles).ppuAdvance s.cycles).ppu.Wf
    refine State.ppuAdvance_wf ?_ _
    rcases State.timerAdvance_cases s s.cycles with e | e <;> rw [e] <;> exact h.ppu

/-! What no instruction, and no step, changes. -/

/-- What a projection must satisfy to be untouched by every instruction: the register file, the control bits and the cost do not reach it, and
no bus write does. -/
structure ExecKeeps {α : Type} (f : State → α) : Prop extends BusKeeps f where
  core : ∀ (s : State) g i e h n, f { s with regs := g, ime := i, eiPending := e, halted := h, cycles := n } = f s

section
variable {α : Type} {f : State → α} (hf : ExecKeeps f)
include hf
theorem ExecKeeps.bus (s : State) (a : Word) (v : Byte) : f (s.busWrite a v) = f s := State.busWrite_keeps f hf.toBusKeeps s a v
theorem ExecKeeps.reg (s : State) (r : Reg8) (v : Byte) : f (s.setReg r v) = f s := hf.core s _ _ _ _ _
theorem ExecKeeps.pair (s : State) (p : Reg16) (v : Word) : f (s.setPair p v) = f s := hf.core s _ _ _ _ _
theorem ExecKeeps.sp (s : State) (v : Word) : f (s.setSp v) = f s := hf.core s _ _ _ _ _
theorem ExecKeeps.pc (s : State) (v : Word) : f (s.setPc v) = f s := hf.core s _ _ _ _ _
theorem ExecKeeps.flags (s : State) (z n h c : Bool) : f (s.setFlags z n h c) = f s := hf.core s _ _ _ _ _
theorem ExecKeeps.cost (s : State) (n : Nat) : f (s.addCycles n) = f s := hf.core s _ _ _ _ _
theorem ExecKeeps.pass (s : State) (len cost : Nat) : f (s.pass len cost) = f s := hf.core s _ _ _ _ _
theorem ExecKeeps.enables (s : State) (i e : Bool) : f { s with ime := i, eiPending := e } = f s := hf.core s _ _ _ _ _
theorem ExecKeeps.halt (s : State) (h : Bool) : f { s with halted := h } = f s := hf.core s _ _ _ _ _
theorem ExecKeeps.push (s : State) (v : Word) : f (s.push16 v) = f s := by
  unfold State.push16; simp only [hf.bus, hf.sp]
theorem ExecKeeps.popPc (s : State) : f s.popPc = f s := by
  unfold State.popPc State.popDone; simp only [hf.pc, hf.sp]
theorem ExecKeeps.stack (s : State) (q : StackReg) (v : Word) : f (s.setStackPair q v) = f s := by
  cases q <;> exact hf.core s _ _ _ _ _

/-- No instruction changes what neither the register file, the control bits nor a bus write reaches. -/
theorem exec_keeps (i : Instr) {s t : State} (h : exec i s = .next t) : f t = f s := by
  induction i using Instr.byFamily
  case halt =>
    rw [exec_halt] at h
    unfold haltOr at h
    split at h
    · cases h
    · cases h
      simp only [hf.halt, hf.pass]
  case stop => cases h
  case illegal i b hb => rw [exec_illegal _ hb] at h; cases h
  all_goals
    simp only [exec_ldRegReg, exec_ldRegImm, exec_ldRegAtHL, exec_ldAtHLReg, exec_ldAtHLImm, exec_ldAAtBC, exec_ldAAtDE, exec_ldAtBCA,
      exec_ldAtDEA, exec_ldAAbs, exec_ldAbsA, exec_ldhA, exec_ldhStoreA, exec_ldAHighC, exec_ldHighCA, exec_ldAtHLIncA, exec_ldAAtHLInc,
      exec_ldAtHLDecA, exec_ldAAtHLDec, exec_ldPairImm, exec_ldAbsSP, exec_ldSPHL, exec_ldHLSPPlus, exec_push, exec_pop, exec_jump,
      exec_jumpCond, exec_jumpHL, exec_jumpRel, exec_jumpRelCond, exec_call, exec_callCond, exec_ret, exec_retCond, exec_reti, exec_rst,
      exec_incReg, exec_decReg, exec_incAtHL, exec_decAtHL, exec_incPair, exec_decPair, exec_alu, exec_aluImm, exec_addHL, exec_addSP,
      exec_rlca, exec_rrca, exec_rla, exec_rra, exec_rot, exec_bitTest, exec_bitReset, exec_bitSet, exec_nop, exec_di, exec_ei, exec_daa,
      exec_cpl, exec_scf, exec_ccf, Host.Outcome.next.injEq] at h
    subst h
    simp only [ldRegReg, ldRegImm, ldRegAtHL, ldAtHLReg, ldAtHLImm, ldAAt, ldAtA, ldAAbs, ldAbsA, ldhA, ldhStoreA, ldAHighC, ldHighCA, ldAtHLIncA,
      ldAAtHLInc, ldAtHLDecA, ldAAtHLDec, ldPairImm, ldAbsSP, ldSPHL, ldHLSPPlus, push, pop, jump, jumpCond, jumpHL, jumpRel, jumpRelCond,
      call, callCond, ret, retCond, reti, State.returnFromInterrupt, incReg, decReg, incAtHL, decAtHL, incPair, decPair, alu, aluWith,
      addHL, addSP, rotateA, rotateShift, bitTest, bitReset, bitSet, noOperation, disableInterrupts, enableInterrupts, decimalAdjust,
      complementA, setCarry, complementCarry, State.setAluFlags, State.dst8, State.incHL, State.decHL, State.popDone, State.busWrite16,
      hf.bus, hf.reg, hf.pair, hf.sp, hf.pc, hf.flags, hf.pass, hf.enables, hf.push, hf.popPc, hf.stack]
    try (split <;> simp only [hf.bus, hf.reg, hf.pc, hf.flags, hf.cost, hf.pass, hf.push, hf.popPc])

/-- No service and no step changes what neither an instruction nor the advance of the devices reaches. -/
theorem step_keeps (hc : ∀ s n, f { s with totalCycles := n } = f s) {s t : State} (h : step s = .next t) : f t = f s := by
  have hd : ∀ u : State, f u.advanceDevices = f u := fun u => State.advanceDevices_keeps f hf.iflag hf.ppu hf.timer hc u
  have hw : f { s with cycles := 0, halted := false } = f s := hf.core s s.regs s.ime s.eiPending false 0
  obtain ⟨-, -, ⟨-, rfl⟩ | ⟨u, w, hb, he, rfl⟩⟩ := step_cases h
  · exact (hd _).trans (hf.core s s.regs s.ime s.eiPending s.halted 4)
  · have hp : f (w.promoteEi u.eiPending) = f w := by
      unfold State.promoteEi
      split
      · exact hf.enables w true false
      · rfl
    rw [hd, hp, exec_keeps hf _ he]
    rcases s.beginStep_cases with ⟨k, -, -, -, e⟩ | ⟨k, -, -, -, e⟩ | ⟨-, -, e⟩ | ⟨-, -, e⟩ <;> rw [e] at hb <;> cases hb
    · unfold State.takeInterrupt
      dsimp only
      rw [hf.cost, hf.pc, hf.push, ← hw]
      exact (hf.iflag _ _).trans (hf.enables { s with cycles := 0, halted := false } false false)
    · exact hw
end

/-- A program never changes the button masks (60_exceptions R470). -/
theorem step_joyMasks {s t : State} (h : step s = .next t) : (t.joy.jdir, t.joy.jact) = (s.joy.jdir, s.joy.jact) :=
  step_keeps (f := fun s => (s.joy.jdir, s.joy.jact)) ⟨by constructor <;> intros <;> rfl, fun _ _ _ _ _ _ => rfl⟩ (fun _ _ => rfl) h

/-- No step changes a parameter (00_scope R6; log entry 1). -/
theorem step_params {s t : State} (h : step s = .next t) : t.params = s.params :=
  step_keeps (f := (·.params)) ⟨by constructor <;> intros <;> rfl, fun _ _ _ _ _ _ => rfl⟩ (fun _ _ => rfl) h

end Sys2Proof.Machine
end

