-- ==== Sys2Proof/Tests/Slice0.lean ====
section
/-! SUPPORT. The package's own tests: ill-formed terms are refused, every row of the opcode table decodes, the vectors of 95_test_vectors run, and
for each statement with hypotheses named witnesses meet them. Expected values come from spec/95_test_vectors.md and spec/opcode_table.json. -/

namespace Sys2Proof.Tests

open Sys2Proof Sys2Proof.Machine

/-- The start of the instruction vectors: the reset state with code at C000, pc there, the given bytes in RAM, and a blank image. -/
def demo (code : List Byte) (ram : List Host.Cell) : State :=
  { State.resetWith (Memory.writeAll (Memory.ofBytes 0xC000 code) ram) (some Cart.blank) Params.default with
    regs := { Regs.reset with pc := 0xC000 } }

/-- Whether a step answers a next state with the property. -/
def ran (s : State) (p : State → Bool) : Bool :=
  match step s with
  | .next t => p t
  | _ => false

/-- The fault a step answers with. -/
def stopped (s : State) : Option Fault :=
  match step s with
  | .fault r => some r
  | _ => none

/-- The instruction a list of bytes is, whole. -/
def whole (bs : List Byte) : Option Instr :=
  match decode bs with
  | .ok (i, []) => some i
  | _ => none

/-- Bus writes one after the other. -/
def wrote (s : State) (l : List (Word × Byte)) : State := l.foldl (fun s p => s.busWrite p.1 p.2) s

/-! A displacement outside -128..127 is ill-formed, for each of the seven constructors that WellFormed checks (30_encoding R156). -/

theorem test_jr_e_ill_formed : (Instr.jr_e 128).wellFormed = false ∧ (Instr.jr_e (-129)).wellFormed = false := by decide
theorem test_jr_NZ_e_ill_formed : (Instr.jr_NZ_e 128).wellFormed = false ∧ (Instr.jr_NZ_e (-129)).wellFormed = false := by decide
theorem test_jr_Z_e_ill_formed : (Instr.jr_Z_e 128).wellFormed = false ∧ (Instr.jr_Z_e (-129)).wellFormed = false := by decide
theorem test_jr_NC_e_ill_formed : (Instr.jr_NC_e 128).wellFormed = false ∧ (Instr.jr_NC_e (-129)).wellFormed = false := by decide
theorem test_jr_C_e_ill_formed : (Instr.jr_C_e 128).wellFormed = false ∧ (Instr.jr_C_e (-129)).wellFormed = false := by decide
theorem test_add_SP_e_ill_formed : (Instr.add_SP_e 128).wellFormed = false ∧ (Instr.add_SP_e (-129)).wellFormed = false := by decide
theorem test_ld_HL_SPplusE_ill_formed :
    (Instr.ld_HL_SPplusE 128).wellFormed = false ∧ (Instr.ld_HL_SPplusE (-129)).wellFormed = false := by decide

/-! A list that ends early is refused by name, and the rest of a longer list is given back. -/

theorem test_decode_refuses : whole [] = none ∧ whole [0x01, 0x34] = none ∧ whole [0xCB] = none ∧ whole [0x00, 0x00] = none := by decide

/-! Every row of the opcode table: the word of its encoding (30_encoding R170, R171, spec/opcode_table.json) decodes to it. -/

theorem test_decode_op_0x : ∀ p ∈ ([
      ([0x00], .nop), ([0x01, 0x34, 0x12], .ld_BC_nn 0x1234), ([0x02], .ld_atBC_A), ([0x03], .inc_BC),
      ([0x04], .inc_B), ([0x05], .dec_B), ([0x06, 0xAB], .ld_B_n 0xAB), ([0x07], .rlca),
      ([0x08, 0x34, 0x12], .ld_atNn_SP 0x1234), ([0x09], .add_HL_BC), ([0x0A], .ld_A_atBC), ([0x0B], .dec_BC),
      ([0x0C], .inc_C), ([0x0D], .dec_C), ([0x0E, 0xAB], .ld_C_n 0xAB), ([0x0F], .rrca)] : List (List Byte × Instr)), whole p.1 = some p.2 := by decide

theorem test_decode_op_1x : ∀ p ∈ ([
      ([0x10, 0xAB], .stop 0xAB), ([0x11, 0x34, 0x12], .ld_DE_nn 0x1234), ([0x12], .ld_atDE_A), ([0x13], .inc_DE),
      ([0x14], .inc_D), ([0x15], .dec_D), ([0x16, 0xAB], .ld_D_n 0xAB), ([0x17], .rla),
      ([0x18, 0xFE], .jr_e (-2)), ([0x19], .add_HL_DE), ([0x1A], .ld_A_atDE), ([0x1B], .dec_DE),
      ([0x1C], .inc_E), ([0x1D], .dec_E), ([0x1E, 0xAB], .ld_E_n 0xAB), ([0x1F], .rra)] : List (List Byte × Instr)), whole p.1 = some p.2 := by decide

theorem test_decode_op_2x : ∀ p ∈ ([
      ([0x20, 0xFE], .jr_NZ_e (-2)), ([0x21, 0x34, 0x12], .ld_HL_nn 0x1234), ([0x22], .ld_atHLinc_A), ([0x23], .inc_HL),
      ([0x24], .inc_H), ([0x25], .dec_H), ([0x26, 0xAB], .ld_H_n 0xAB), ([0x27], .daa),
      ([0x28, 0xFE], .jr_Z_e (-2)), ([0x29], .add_HL_HL), ([0x2A], .ld_A_atHLinc), ([0x2B], .dec_HL),
      ([0x2C], .inc_L), ([0x2D], .dec_L), ([0x2E, 0xAB], .ld_L_n 0xAB), ([0x2F], .cpl)] : List (List Byte × Instr)), whole p.1 = some p.2 := by decide

theorem test_decode_op_3x : ∀ p ∈ ([
      ([0x30, 0xFE], .jr_NC_e (-2)), ([0x31, 0x34, 0x12], .ld_SP_nn 0x1234), ([0x32], .ld_atHLdec_A), ([0x33], .inc_SP),
      ([0x34], .inc_atHL), ([0x35], .dec_atHL), ([0x36, 0xAB], .ld_atHL_n 0xAB), ([0x37], .scf),
      ([0x38, 0xFE], .jr_C_e (-2)), ([0x39], .add_HL_SP), ([0x3A], .ld_A_atHLdec), ([0x3B], .dec_SP),
      ([0x3C], .inc_A), ([0x3D], .dec_A), ([0x3E, 0xAB], .ld_A_n 0xAB), ([0x3F], .ccf)] : List (List Byte × Instr)), whole p.1 = some p.2 := by decide

theorem test_decode_op_4x : ∀ p ∈ ([
      ([0x40], .ld_B_B), ([0x41], .ld_B_C), ([0x42], .ld_B_D), ([0x43], .ld_B_E),
      ([0x44], .ld_B_H), ([0x45], .ld_B_L), ([0x46], .ld_B_atHL), ([0x47], .ld_B_A),
      ([0x48], .ld_C_B), ([0x49], .ld_C_C), ([0x4A], .ld_C_D), ([0x4B], .ld_C_E),
      ([0x4C], .ld_C_H), ([0x4D], .ld_C_L), ([0x4E], .ld_C_atHL), ([0x4F], .ld_C_A)] : List (List Byte × Instr)), whole p.1 = some p.2 := by decide

theorem test_decode_op_5x : ∀ p ∈ ([
      ([0x50], .ld_D_B), ([0x51], .ld_D_C), ([0x52], .ld_D_D), ([0x53], .ld_D_E),
      ([0x54], .ld_D_H), ([0x55], .ld_D_L), ([0x56], .ld_D_atHL), ([0x57], .ld_D_A),
      ([0x58], .ld_E_B), ([0x59], .ld_E_C), ([0x5A], .ld_E_D), ([0x5B], .ld_E_E),
      ([0x5C], .ld_E_H), ([0x5D], .ld_E_L), ([0x5E], .ld_E_atHL), ([0x5F], .ld_E_A)] : List (List Byte × Instr)), whole p.1 = some p.2 := by decide

theorem test_decode_op_6x : ∀ p ∈ ([
      ([0x60], .ld_H_B), ([0x61], .ld_H_C), ([0x62], .ld_H_D), ([0x63], .ld_H_E),
      ([0x64], .ld_H_H), ([0x65], .ld_H_L), ([0x66], .ld_H_atHL), ([0x67], .ld_H_A),
      ([0x68], .ld_L_B), ([0x69], .ld_L_C), ([0x6A], .ld_L_D), ([0x6B], .ld_L_E),
      ([0x6C], .ld_L_H), ([0x6D], .ld_L_L), ([0x6E], .ld_L_atHL), ([0x6F], .ld_L_A)] : List (List Byte × Instr)), whole p.1 = some p.2 := by decide

theorem test_decode_op_7x : ∀ p ∈ ([
      ([0x70], .ld_atHL_B), ([0x71], .ld_atHL_C), ([0x72], .ld_atHL_D), ([0x73], .ld_atHL_E),
      ([0x74], .ld_atHL_H), ([0x75], .ld_atHL_L), ([0x76], .halt), ([0x77], .ld_atHL_A),
      ([0x78], .ld_A_B), ([0x79], .ld_A_C), ([0x7A], .ld_A_D), ([0x7B], .ld_A_E),
      ([0x7C], .ld_A_H), ([0x7D], .ld_A_L), ([0x7E], .ld_A_atHL), ([0x7F], .ld_A_A)] : List (List Byte × Instr)), whole p.1 = some p.2 := by decide

theorem test_decode_op_8x : ∀ p ∈ ([
      ([0x80], .add_A_B), ([0x81], .add_A_C), ([0x82], .add_A_D), ([0x83], .add_A_E),
      ([0x84], .add_A_H), ([0x85], .add_A_L), ([0x86], .add_A_atHL), ([0x87], .add_A_A),
      ([0x88], .adc_A_B), ([0x89], .adc_A_C), ([0x8A], .adc_A_D), ([0x8B], .adc_A_E),
      ([0x8C], .adc_A_H), ([0x8D], .adc_A_L), ([0x8E], .adc_A_atHL), ([0x8F], .adc_A_A)] : List (List Byte × Instr)), whole p.1 = some p.2 := by decide

theorem test_decode_op_9x : ∀ p ∈ ([
      ([0x90], .sub_A_B), ([0x91], .sub_A_C), ([0x92], .sub_A_D), ([0x93], .sub_A_E),
      ([0x94], .sub_A_H), ([0x95], .sub_A_L), ([0x96], .sub_A_atHL), ([0x97], .sub_A_A),
      ([0x98], .sbc_A_B), ([0x99], .sbc_A_C), ([0x9A], .sbc_A_D), ([0x9B], .sbc_A_E),
      ([0x9C], .sbc_A_H), ([0x9D], .sbc_A_L), ([0x9E], .sbc_A_atHL), ([0x9F], .sbc_A_A)] : List (List Byte × Instr)), whole p.1 = some p.2 := by decide

theorem test_decode_op_Ax : ∀ p ∈ ([
      ([0xA0], .and_A_B), ([0xA1], .and_A_C), ([0xA2], .and_A_D), ([0xA3], .and_A_E),
      ([0xA4], .and_A_H), ([0xA5], .and_A_L), ([0xA6], .and_A_atHL), ([0xA7], .and_A_A),
      ([0xA8], .xor_A_B), ([0xA9], .xor_A_C), ([0xAA], .xor_A_D), ([0xAB], .xor_A_E),
      ([0xAC], .xor_A_H), ([0xAD], .xor_A_L), ([0xAE], .xor_A_atHL), ([0xAF], .xor_A_A)] : List (List Byte × Instr)), whole p.1 = some p.2 := by decide

theorem test_decode_op_Bx : ∀ p ∈ ([
      ([0xB0], .or_A_B), ([0xB1], .or_A_C), ([0xB2], .or_A_D), ([0xB3], .or_A_E),
      ([0xB4], .or_A_H), ([0xB5], .or_A_L), ([0xB6], .or_A_atHL), ([0xB7], .or_A_A),
      ([0xB8], .cp_A_B), ([0xB9], .cp_A_C), ([0xBA], .cp_A_D), ([0xBB], .cp_A_E),
      ([0xBC], .cp_A_H), ([0xBD], .cp_A_L), ([0xBE], .cp_A_atHL), ([0xBF], .cp_A_A)] : List (List Byte × Instr)), whole p.1 = some p.2 := by decide

theorem test_decode_op_Cx : ∀ p ∈ ([
      ([0xC0], .ret_NZ), ([0xC1], .pop_BC), ([0xC2, 0x34, 0x12], .jp_NZ_nn 0x1234), ([0xC3, 0x34, 0x12], .jp_nn 0x1234),
      ([0xC4, 0x34, 0x12], .call_NZ_nn 0x1234), ([0xC5], .push_BC), ([0xC6, 0xAB], .add_A_n 0xAB), ([0xC7], .rst_00H),
      ([0xC8], .ret_Z), ([0xC9], .ret), ([0xCA, 0x34, 0x12], .jp_Z_nn 0x1234), ([0xCC, 0x34, 0x12], .call_Z_nn 0x1234),
      ([0xCD, 0x34, 0x12], .call_nn 0x1234), ([0xCE, 0xAB], .adc_A_n 0xAB), ([0xCF], .rst_08H)] : List (List Byte × Instr)), whole p.1 = some p.2 := by decide

theorem test_decode_op_Dx : ∀ p ∈ ([
      ([0xD0], .ret_NC), ([0xD1], .pop_DE), ([0xD2, 0x34, 0x12], .jp_NC_nn 0x1234), ([0xD3], .illegal_D3),
      ([0xD4, 0x34, 0x12], .call_NC_nn 0x1234), ([0xD5], .push_DE), ([0xD6, 0xAB], .sub_A_n 0xAB), ([0xD7], .rst_10H),
      ([0xD8], .ret_C), ([0xD9], .reti), ([0xDA, 0x34, 0x12], .jp_C_nn 0x1234), ([0xDB], .illegal_DB),
      ([0xDC, 0x34, 0x12], .call_C_nn 0x1234), ([0xDD], .illegal_DD), ([0xDE, 0xAB], .sbc_A_n 0xAB), ([0xDF], .rst_18H)] : List (List Byte × Instr)), whole p.1 = some p.2 := by decide

theorem test_decode_op_Ex : ∀ p ∈ ([
      ([0xE0, 0xAB], .ldh_atN_A 0xAB), ([0xE1], .pop_HL), ([0xE2], .ld_atC_A), ([0xE3], .illegal_E3),
      ([0xE4], .illegal_E4), ([0xE5], .push_HL), ([0xE6, 0xAB], .and_A_n 0xAB), ([0xE7], .rst_20H),
      ([0xE8, 0xFE], .add_SP_e (-2)), ([0xE9], .jp_HL), ([0xEA, 0x34, 0x12], .ld_atNn_A 0x1234), ([0xEB], .illegal_EB),
      ([0xEC], .illegal_EC), ([0xED], .illegal_ED), ([0xEE, 0xAB], .xor_A_n 0xAB), ([0xEF], .rst_28H)] : List (List Byte × Instr)), whole p.1 = some p.2 := by decide

theorem test_decode_op_Fx : ∀ p ∈ ([
      ([0xF0, 0xAB], .ldh_A_atN 0xAB), ([0xF1], .pop_AF), ([0xF2], .ld_A_atC), ([0xF3], .di),
      ([0xF4], .illegal_F4), ([0xF5], .push_AF), ([0xF6, 0xAB], .or_A_n 0xAB), ([0xF7], .rst_30H),
      ([0xF8, 0xFE], .ld_HL_SPplusE (-2)), ([0xF9], .ld_SP_HL), ([0xFA, 0x34, 0x12], .ld_A_atNn 0x1234), ([0xFB], .ei),
      ([0xFC], .illegal_FC), ([0xFD], .illegal_FD), ([0xFE, 0xAB], .cp_A_n 0xAB), ([0xFF], .rst_38H)] : List (List Byte × Instr)), whole p.1 = some p.2 := by decide

theorem test_decode_cb_0x : ∀ p ∈ ([
      ([0xCB, 0x00], .rlc_B), ([0xCB, 0x01], .rlc_C), ([0xCB, 0x02], .rlc_D), ([0xCB, 0x03], .rlc_E),
      ([0xCB, 0x04], .rlc_H), ([0xCB, 0x05], .rlc_L), ([0xCB, 0x06], .rlc_atHL), ([0xCB, 0x07], .rlc_A),
      ([0xCB, 0x08], .rrc_B), ([0xCB, 0x09], .rrc_C), ([0xCB, 0x0A], .rrc_D), ([0xCB, 0x0B], .rrc_E),
      ([0xCB, 0x0C], .rrc_H), ([0xCB, 0x0D], .rrc_L), ([0xCB, 0x0E], .rrc_atHL), ([0xCB, 0x0F], .rrc_A)] : List (List Byte × Instr)), whole p.1 = some p.2 := by decide

theorem test_decode_cb_1x : ∀ p ∈ ([
      ([0xCB, 0x10], .rl_B), ([0xCB, 0x11], .rl_C), ([0xCB, 0x12], .rl_D), ([0xCB, 0x13], .rl_E),
      ([0xCB, 0x14], .rl_H), ([0xCB, 0x15], .rl_L), ([0xCB, 0x16], .rl_atHL), ([0xCB, 0x17], .rl_A),
      ([0xCB, 0x18], .rr_B), ([0xCB, 0x19], .rr_C), ([0xCB, 0x1A], .rr_D), ([0xCB, 0x1B], .rr_E),
      ([0xCB, 0x1C], .rr_H), ([0xCB, 0x1D], .rr_L), ([0xCB, 0x1E], .rr_atHL), ([0xCB, 0x1F], .rr_A)] : List (List Byte × Instr)), whole p.1 = some p.2 := by decide

theorem test_decode_cb_2x : ∀ p ∈ ([
      ([0xCB, 0x20], .sla_B), ([0xCB, 0x21], .sla_C), ([0xCB, 0x22], .sla_D), ([0xCB, 0x23], .sla_E),
      ([0xCB, 0x24], .sla_H), ([0xCB, 0x25], .sla_L), ([0xCB, 0x26], .sla_atHL), ([0xCB, 0x27], .sla_A),
      ([0xCB, 0x28], .sra_B), ([0xCB, 0x29], .sra_C), ([0xCB, 0x2A], .sra_D), ([0xCB, 0x2B], .sra_E),
      ([0xCB, 0x2C], .sra_H), ([0xCB, 0x2D], .sra_L), ([0xCB, 0x2E], .sra_atHL), ([0xCB, 0x2F], .sra_A)] : List (List Byte × Instr)), whole p.1 = some p.2 := by decide

theorem test_decode_cb_3x : ∀ p ∈ ([
      ([0xCB, 0x30], .swap_B), ([0xCB, 0x31], .swap_C), ([0xCB, 0x32], .swap_D), ([0xCB, 0x33], .swap_E),
      ([0xCB, 0x34], .swap_H), ([0xCB, 0x35], .swap_L), ([0xCB, 0x36], .swap_atHL), ([0xCB, 0x37], .swap_A),
      ([0xCB, 0x38], .srl_B), ([0xCB, 0x39], .srl_C), ([0xCB, 0x3A], .srl_D), ([0xCB, 0x3B], .srl_E),
      ([0xCB, 0x3C], .srl_H), ([0xCB, 0x3D], .srl_L), ([0xCB, 0x3E], .srl_atHL), ([0xCB, 0x3F], .srl_A)] : List (List Byte × Instr)), whole p.1 = some p.2 := by decide

theorem test_decode_cb_4x : ∀ p ∈ ([
      ([0xCB, 0x40], .bit_0_B), ([0xCB, 0x41], .bit_0_C), ([0xCB, 0x42], .bit_0_D), ([0xCB, 0x43], .bit_0_E),
      ([0xCB, 0x44], .bit_0_H), ([0xCB, 0x45], .bit_0_L), ([0xCB, 0x46], .bit_0_atHL), ([0xCB, 0x47], .bit_0_A),
      ([0xCB, 0x48], .bit_1_B), ([0xCB, 0x49], .bit_1_C), ([0xCB, 0x4A], .bit_1_D), ([0xCB, 0x4B], .bit_1_E),
      ([0xCB, 0x4C], .bit_1_H), ([0xCB, 0x4D], .bit_1_L), ([0xCB, 0x4E], .bit_1_atHL), ([0xCB, 0x4F], .bit_1_A)] : List (List Byte × Instr)), whole p.1 = some p.2 := by decide

theorem test_decode_cb_5x : ∀ p ∈ ([
      ([0xCB, 0x50], .bit_2_B), ([0xCB, 0x51], .bit_2_C), ([0xCB, 0x52], .bit_2_D), ([0xCB, 0x53], .bit_2_E),
      ([0xCB, 0x54], .bit_2_H), ([0xCB, 0x55], .bit_2_L), ([0xCB, 0x56], .bit_2_atHL), ([0xCB, 0x57], .bit_2_A),
      ([0xCB, 0x58], .bit_3_B), ([0xCB, 0x59], .bit_3_C), ([0xCB, 0x5A], .bit_3_D), ([0xCB, 0x5B], .bit_3_E),
      ([0xCB, 0x5C], .bit_3_H), ([0xCB, 0x5D], .bit_3_L), ([0xCB, 0x5E], .bit_3_atHL), ([0xCB, 0x5F], .bit_3_A)] : List (List Byte × Instr)), whole p.1 = some p.2 := by decide

theorem test_decode_cb_6x : ∀ p ∈ ([
      ([0xCB, 0x60], .bit_4_B), ([0xCB, 0x61], .bit_4_C), ([0xCB, 0x62], .bit_4_D), ([0xCB, 0x63], .bit_4_E),
      ([0xCB, 0x64], .bit_4_H), ([0xCB, 0x65], .bit_4_L), ([0xCB, 0x66], .bit_4_atHL), ([0xCB, 0x67], .bit_4_A),
      ([0xCB, 0x68], .bit_5_B), ([0xCB, 0x69], .bit_5_C), ([0xCB, 0x6A], .bit_5_D), ([0xCB, 0x6B], .bit_5_E),
      ([0xCB, 0x6C], .bit_5_H), ([0xCB, 0x6D], .bit_5_L), ([0xCB, 0x6E], .bit_5_atHL), ([0xCB, 0x6F], .bit_5_A)] : List (List Byte × Instr)), whole p.1 = some p.2 := by decide

theorem test_decode_cb_7x : ∀ p ∈ ([
      ([0xCB, 0x70], .bit_6_B), ([0xCB, 0x71], .bit_6_C), ([0xCB, 0x72], .bit_6_D), ([0xCB, 0x73], .bit_6_E),
      ([0xCB, 0x74], .bit_6_H), ([0xCB, 0x75], .bit_6_L), ([0xCB, 0x76], .bit_6_atHL), ([0xCB, 0x77], .bit_6_A),
      ([0xCB, 0x78], .bit_7_B), ([0xCB, 0x79], .bit_7_C), ([0xCB, 0x7A], .bit_7_D), ([0xCB, 0x7B], .bit_7_E),
      ([0xCB, 0x7C], .bit_7_H), ([0xCB, 0x7D], .bit_7_L), ([0xCB, 0x7E], .bit_7_atHL), ([0xCB, 0x7F], .bit_7_A)] : List (List Byte × Instr)), whole p.1 = some p.2 := by decide

theorem test_decode_cb_8x : ∀ p ∈ ([
      ([0xCB, 0x80], .res_0_B), ([0xCB, 0x81], .res_0_C), ([0xCB, 0x82], .res_0_D), ([0xCB, 0x83], .res_0_E),
      ([0xCB, 0x84], .res_0_H), ([0xCB, 0x85], .res_0_L), ([0xCB, 0x86], .res_0_atHL), ([0xCB, 0x87], .res_0_A),
      ([0xCB, 0x88], .res_1_B), ([0xCB, 0x89], .res_1_C), ([0xCB, 0x8A], .res_1_D), ([0xCB, 0x8B], .res_1_E),
      ([0xCB, 0x8C], .res_1_H), ([0xCB, 0x8D], .res_1_L), ([0xCB, 0x8E], .res_1_atHL), ([0xCB, 0x8F], .res_1_A)] : List (List Byte × Instr)), whole p.1 = some p.2 := by decide

theorem test_decode_cb_9x : ∀ p ∈ ([
      ([0xCB, 0x90], .res_2_B), ([0xCB, 0x91], .res_2_C), ([0xCB, 0x92], .res_2_D), ([0xCB, 0x93], .res_2_E),
      ([0xCB, 0x94], .res_2_H), ([0xCB, 0x95], .res_2_L), ([0xCB, 0x96], .res_2_atHL), ([0xCB, 0x97], .res_2_A),
      ([0xCB, 0x98], .res_3_B), ([0xCB, 0x99], .res_3_C), ([0xCB, 0x9A], .res_3_D), ([0xCB, 0x9B], .res_3_E),
      ([0xCB, 0x9C], .res_3_H), ([0xCB, 0x9D], .res_3_L), ([0xCB, 0x9E], .res_3_atHL), ([0xCB, 0x9F], .res_3_A)] : List (List Byte × Instr)), whole p.1 = some p.2 := by decide

theorem test_decode_cb_Ax : ∀ p ∈ ([
      ([0xCB, 0xA0], .res_4_B), ([0xCB, 0xA1], .res_4_C), ([0xCB, 0xA2], .res_4_D), ([0xCB, 0xA3], .res_4_E),
      ([0xCB, 0xA4], .res_4_H), ([0xCB, 0xA5], .res_4_L), ([0xCB, 0xA6], .res_4_atHL), ([0xCB, 0xA7], .res_4_A),
      ([0xCB, 0xA8], .res_5_B), ([0xCB, 0xA9], .res_5_C), ([0xCB, 0xAA], .res_5_D), ([0xCB, 0xAB], .res_5_E),
      ([0xCB, 0xAC], .res_5_H), ([0xCB, 0xAD], .res_5_L), ([0xCB, 0xAE], .res_5_atHL), ([0xCB, 0xAF], .res_5_A)] : List (List Byte × Instr)), whole p.1 = some p.2 := by decide

theorem test_decode_cb_Bx : ∀ p ∈ ([
      ([0xCB, 0xB0], .res_6_B), ([0xCB, 0xB1], .res_6_C), ([0xCB, 0xB2], .res_6_D), ([0xCB, 0xB3], .res_6_E),
      ([0xCB, 0xB4], .res_6_H), ([0xCB, 0xB5], .res_6_L), ([0xCB, 0xB6], .res_6_atHL), ([0xCB, 0xB7], .res_6_A),
      ([0xCB, 0xB8], .res_7_B), ([0xCB, 0xB9], .res_7_C), ([0xCB, 0xBA], .res_7_D), ([0xCB, 0xBB], .res_7_E),
      ([0xCB, 0xBC], .res_7_H), ([0xCB, 0xBD], .res_7_L), ([0xCB, 0xBE], .res_7_atHL), ([0xCB, 0xBF], .res_7_A)] : List (List Byte × Instr)), whole p.1 = some p.2 := by decide

theorem test_decode_cb_Cx : ∀ p ∈ ([
      ([0xCB, 0xC0], .set_0_B), ([0xCB, 0xC1], .set_0_C), ([0xCB, 0xC2], .set_0_D), ([0xCB, 0xC3], .set_0_E),
      ([0xCB, 0xC4], .set_0_H), ([0xCB, 0xC5], .set_0_L), ([0xCB, 0xC6], .set_0_atHL), ([0xCB, 0xC7], .set_0_A),
      ([0xCB, 0xC8], .set_1_B), ([0xCB, 0xC9], .set_1_C), ([0xCB, 0xCA], .set_1_D), ([0xCB, 0xCB], .set_1_E),
      ([0xCB, 0xCC], .set_1_H), ([0xCB, 0xCD], .set_1_L), ([0xCB, 0xCE], .set_1_atHL), ([0xCB, 0xCF], .set_1_A)] : List (List Byte × Instr)), whole p.1 = some p.2 := by decide

theorem test_decode_cb_Dx : ∀ p ∈ ([
      ([0xCB, 0xD0], .set_2_B), ([0xCB, 0xD1], .set_2_C), ([0xCB, 0xD2], .set_2_D), ([0xCB, 0xD3], .set_2_E),
      ([0xCB, 0xD4], .set_2_H), ([0xCB, 0xD5], .set_2_L), ([0xCB, 0xD6], .set_2_atHL), ([0xCB, 0xD7], .set_2_A),
      ([0xCB, 0xD8], .set_3_B), ([0xCB, 0xD9], .set_3_C), ([0xCB, 0xDA], .set_3_D), ([0xCB, 0xDB], .set_3_E),
      ([0xCB, 0xDC], .set_3_H), ([0xCB, 0xDD], .set_3_L), ([0xCB, 0xDE], .set_3_atHL), ([0xCB, 0xDF], .set_3_A)] : List (List Byte × Instr)), whole p.1 = some p.2 := by decide

theorem test_decode_cb_Ex : ∀ p ∈ ([
      ([0xCB, 0xE0], .set_4_B), ([0xCB, 0xE1], .set_4_C), ([0xCB, 0xE2], .set_4_D), ([0xCB, 0xE3], .set_4_E),
      ([0xCB, 0xE4], .set_4_H), ([0xCB, 0xE5], .set_4_L), ([0xCB, 0xE6], .set_4_atHL), ([0xCB, 0xE7], .set_4_A),
      ([0xCB, 0xE8], .set_5_B), ([0xCB, 0xE9], .set_5_C), ([0xCB, 0xEA], .set_5_D), ([0xCB, 0xEB], .set_5_E),
      ([0xCB, 0xEC], .set_5_H), ([0xCB, 0xED], .set_5_L), ([0xCB, 0xEE], .set_5_atHL), ([0xCB, 0xEF], .set_5_A)] : List (List Byte × Instr)), whole p.1 = some p.2 := by decide

theorem test_decode_cb_Fx : ∀ p ∈ ([
      ([0xCB, 0xF0], .set_6_B), ([0xCB, 0xF1], .set_6_C), ([0xCB, 0xF2], .set_6_D), ([0xCB, 0xF3], .set_6_E),
      ([0xCB, 0xF4], .set_6_H), ([0xCB, 0xF5], .set_6_L), ([0xCB, 0xF6], .set_6_atHL), ([0xCB, 0xF7], .set_6_A),
      ([0xCB, 0xF8], .set_7_B), ([0xCB, 0xF9], .set_7_C), ([0xCB, 0xFA], .set_7_D), ([0xCB, 0xFB], .set_7_E),
      ([0xCB, 0xFC], .set_7_H), ([0xCB, 0xFD], .set_7_L), ([0xCB, 0xFE], .set_7_atHL), ([0xCB, 0xFF], .set_7_A)] : List (List Byte × Instr)), whole p.1 = some p.2 := by decide

/-! One step of an instruction, from the vectors of 95_test_vectors section 2: the vector's id stands in each name. -/

theorem test_l_1 : ran { demo [0x06, 0xAB] [] with regs.b := 0x00 } (fun t => t.regs.b = 0xAB ∧ t.regs.pc = 0xC002 ∧ t.cycles = 8) = true := by decide
theorem test_l_2 : ran { demo [0x48] [] with regs.b := 0xAB, regs.c := 0x13 } (fun t => t.regs.c = 0xAB ∧ t.cycles = 4) = true := by decide
theorem test_l_3 : ran { demo [0x7E] [(0xC100, 0x5A)] with regs.h := 0xC1, regs.l := 0x00 } (fun t => t.regs.a = 0x5A ∧ t.cycles = 8) = true := by decide
theorem test_l_4 : ran { demo [0x70] [] with regs.h := 0xC1, regs.l := 0x00, regs.b := 0x77 } (fun t => t.busRead 0xC100 = 0x77 ∧ t.cycles = 8) = true := by decide
theorem test_l_5 : ran { demo [0x36, 0x99] [] with regs.h := 0xC1, regs.l := 0x00 } (fun t => t.busRead 0xC100 = 0x99 ∧ t.cycles = 12) = true := by decide
theorem test_l_6 : ran { demo [0x0A] [(0xC100, 0x3C)] with regs.b := 0xC1, regs.c := 0x00 } (fun t => t.regs.a = 0x3C ∧ t.cycles = 8) = true := by decide
theorem test_l_7 : ran { demo [0x1A] [(0xC100, 0x3D)] with regs.d := 0xC1, regs.e := 0x00 } (fun t => t.regs.a = 0x3D ∧ t.cycles = 8) = true := by decide
theorem test_l_8 : ran { demo [0x02] [] with regs.b := 0xC1, regs.c := 0x00, regs.a := 0x42 } (fun t => t.busRead 0xC100 = 0x42 ∧ t.cycles = 8) = true := by decide
theorem test_l_9 : ran { demo [0x12] [] with regs.d := 0xC1, regs.e := 0x01, regs.a := 0x43 } (fun t => t.busRead 0xC101 = 0x43 ∧ t.cycles = 8) = true := by decide
theorem test_l_10 : ran (demo [0xFA, 0x23, 0xC1] [(0xC123, 0xE7)]) (fun t => t.regs.a = 0xE7 ∧ t.cycles = 16) = true := by decide
theorem test_l_11 : ran { demo [0xEA, 0x00, 0xD0] [] with regs.a := 0x81 } (fun t => t.busRead 0xD000 = 0x81 ∧ t.cycles = 16) = true := by decide
theorem test_l_12 : ran (demo [0xF0, 0x80] [(0xFF80, 0x11)]) (fun t => t.regs.a = 0x11 ∧ t.cycles = 12) = true := by decide
theorem test_l_13 : ran { demo [0xE0, 0x81] [] with regs.a := 0x22 } (fun t => t.busRead 0xFF81 = 0x22 ∧ t.cycles = 12) = true := by decide
theorem test_l_14 : ran { demo [0xF2] [(0xFF82, 0x33)] with regs.c := 0x82 } (fun t => t.regs.a = 0x33 ∧ t.cycles = 8) = true := by decide
theorem test_l_15 : ran { demo [0xE2] [] with regs.c := 0x83, regs.a := 0x44 } (fun t => t.busRead 0xFF83 = 0x44 ∧ t.cycles = 8) = true := by decide
theorem test_l_16 : ran { demo [0x22] [] with regs.h := 0xC1, regs.l := 0xFF, regs.a := 0x55 } (fun t => t.busRead 0xC1FF = 0x55 ∧ t.pair .hl = 0xC200 ∧ t.cycles = 8) = true := by decide
theorem test_l_17 : ran { demo [0x22] [] with regs.h := 0xFF, regs.l := 0xFF, regs.a := 0x66 } (fun t => t.busRead 0xFFFF = 0x66 ∧ t.pair .hl = 0x0000 ∧ t.cycles = 8) = true := by decide
theorem test_l_18 : ran { demo [0x2A] [(0xC100, 0x12)] with regs.h := 0xC1, regs.l := 0x00 } (fun t => t.regs.a = 0x12 ∧ t.pair .hl = 0xC101 ∧ t.cycles = 8) = true := by decide
theorem test_l_19 : ran { demo [0x32] [] with regs.h := 0xC1, regs.l := 0x00, regs.a := 0x77 } (fun t => t.busRead 0xC100 = 0x77 ∧ t.pair .hl = 0xC0FF ∧ t.cycles = 8) = true := by decide
theorem test_l_21 : ran (demo [0x21, 0x34, 0x12] []) (fun t => t.pair .hl = 0x1234 ∧ t.cycles = 12) = true := by decide
theorem test_l_22 : ran (demo [0x31, 0x00, 0xD0] []) (fun t => t.regs.sp = 0xD000 ∧ t.cycles = 12) = true := by decide
theorem test_l_23 : ran { demo [0x08, 0x00, 0xC2] [] with regs.sp := 0xFFF8 } (fun t => t.busRead 0xC200 = 0xF8 ∧ t.busRead 0xC201 = 0xFF ∧ t.cycles = 20) = true := by decide
theorem test_l_24 : ran { demo [0xF9] [] with regs.h := 0xD0, regs.l := 0x00 } (fun t => t.regs.sp = 0xD000 ∧ t.cycles = 8) = true := by decide
theorem test_l_25 : ran { demo [0xF8, 0x02] [] with regs.sp := 0xFFF8 } (fun t => t.pair .hl = 0xFFFA ∧ t.regs.f = 0x00 ∧ t.cycles = 12) = true := by decide
theorem test_l_26 : ran { demo [0xF8, 0x01] [] with regs.sp := 0x000F } (fun t => t.pair .hl = 0x0010 ∧ t.regs.f = 0x20 ∧ t.cycles = 12) = true := by decide
theorem test_l_29 : ran { demo [0xC5] [] with regs.sp := 0xD000, regs.b := 0x12, regs.c := 0x34 } (fun t => t.regs.sp = 0xCFFE ∧ t.busRead 0xCFFF = 0x12 ∧ t.busRead 0xCFFE = 0x34 ∧ t.cycles = 16) = true := by decide
theorem test_l_30 : ran { demo [0xF5] [] with regs.sp := 0xD000, regs.a := 0x01, regs.f := 0xB0 } (fun t => t.regs.sp = 0xCFFE ∧ t.busRead 0xCFFF = 0x01 ∧ t.busRead 0xCFFE = 0xB0 ∧ t.cycles = 16) = true := by decide
theorem test_l_31 : ran { demo [0xD1] [(0xCFFE, 0x34), (0xCFFF, 0x12)] with regs.sp := 0xCFFE } (fun t => t.pair .de = 0x1234 ∧ t.regs.sp = 0xD000 ∧ t.cycles = 12) = true := by decide
theorem test_p_af : ran { demo [0xF1] [(0xCFFE, 0xFF), (0xCFFF, 0x12)] with regs.sp := 0xCFFE } (fun t => t.regs.a = 0x12 ∧ t.regs.f = 0xF0 ∧ t.cycles = 12) = true := by decide
theorem test_j_1 : ran (demo [0xC3, 0x00, 0xD0] []) (fun t => t.regs.pc = 0xD000 ∧ t.cycles = 16) = true := by decide
theorem test_j_2 : ran { demo [0xCA, 0x00, 0xD0] [] with regs.f := 0x80 } (fun t => t.regs.pc = 0xD000 ∧ t.cycles = 16) = true := by decide
theorem test_j_3 : ran { demo [0xCA, 0x00, 0xD0] [] with regs.f := 0x00 } (fun t => t.regs.pc = 0xC003 ∧ t.cycles = 12) = true := by decide
theorem test_j_4 : ran { demo [0xD2, 0x00, 0xD0] [] with regs.f := 0x00 } (fun t => t.regs.pc = 0xD000 ∧ t.cycles = 16) = true := by decide
theorem test_j_5 : ran { demo [0xE9] [] with regs.h := 0xD1, regs.l := 0x23 } (fun t => t.regs.pc = 0xD123 ∧ t.cycles = 4) = true := by decide
theorem test_j_6 : ran (demo [0x18, 0x05] []) (fun t => t.regs.pc = 0xC007 ∧ t.cycles = 12) = true := by decide
theorem test_j_7 : ran (demo [0x18, 0xFE] []) (fun t => t.regs.pc = 0xC000 ∧ t.cycles = 12) = true := by decide
theorem test_j_9 : ran { demo [0x20, 0x80] [] with regs.f := 0x00 } (fun t => t.regs.pc = 0xBF82 ∧ t.cycles = 12) = true := by decide
theorem test_j_10 : ran { demo [0x20, 0x80] [] with regs.f := 0x80 } (fun t => t.regs.pc = 0xC002 ∧ t.cycles = 8) = true := by decide
theorem test_j_11 : ran { demo [0x38, 0x10] [] with regs.f := 0x10 } (fun t => t.regs.pc = 0xC012 ∧ t.cycles = 12) = true := by decide
theorem test_j_12 : ran { demo [0xCD, 0x34, 0x12] [] with regs.sp := 0xD000 } (fun t => t.regs.pc = 0x1234 ∧ t.regs.sp = 0xCFFE ∧ t.busRead 0xCFFF = 0xC0 ∧ t.busRead 0xCFFE = 0x03 ∧ t.cycles = 24) = true := by decide
theorem test_j_13 : ran { demo [0xD4, 0x00, 0x03] [] with regs.sp := 0xD000, regs.f := 0x00 } (fun t => t.regs.pc = 0x0300 ∧ t.regs.sp = 0xCFFE ∧ t.busRead 0xCFFF = 0xC0 ∧ t.busRead 0xCFFE = 0x03 ∧ t.cycles = 24) = true := by decide
theorem test_j_14 : ran { demo [0xD4, 0x00, 0x03] [] with regs.sp := 0xD000, regs.f := 0x10 } (fun t => t.regs.pc = 0xC003 ∧ t.regs.sp = 0xD000 ∧ t.cycles = 12) = true := by decide
theorem test_j_15 : ran { demo [0xC9] [(0xCFFE, 0x03), (0xCFFF, 0xC1)] with regs.sp := 0xCFFE } (fun t => t.regs.pc = 0xC103 ∧ t.regs.sp = 0xD000 ∧ t.cycles = 16) = true := by decide
theorem test_j_16 : ran { demo [0xC8] [(0xCFFE, 0x03), (0xCFFF, 0xC1)] with regs.sp := 0xCFFE, regs.f := 0x80 } (fun t => t.regs.pc = 0xC103 ∧ t.regs.sp = 0xD000 ∧ t.cycles = 20) = true := by decide
theorem test_j_18 : ran { demo [0xD9] [(0xCFFE, 0x03), (0xCFFF, 0xC1)] with regs.sp := 0xCFFE, ime := false } (fun t => t.regs.pc = 0xC103 ∧ t.regs.sp = 0xD000 ∧ t.ime = true ∧ t.cycles = 16) = true := by decide
theorem test_j_19 : ran { demo [0xEF] [] with regs.sp := 0xD000 } (fun t => t.regs.pc = 0x0028 ∧ t.regs.sp = 0xCFFE ∧ t.busRead 0xCFFF = 0xC0 ∧ t.busRead 0xCFFE = 0x01 ∧ t.cycles = 16) = true := by decide
theorem test_j_20 : ran { demo [0xFF] [] with regs.sp := 0xD000 } (fun t => t.regs.pc = 0x0038 ∧ t.regs.sp = 0xCFFE ∧ t.cycles = 16) = true := by decide
theorem test_i_1 : ran { demo [0x04] [] with regs.b := 0x0F, regs.f := 0x10 } (fun t => t.regs.b = 0x10 ∧ t.regs.f = 0x30 ∧ t.cycles = 4) = true := by decide
theorem test_i_2 : ran { demo [0x04] [] with regs.b := 0xFF, regs.f := 0x00 } (fun t => t.regs.b = 0x00 ∧ t.regs.f = 0xA0 ∧ t.cycles = 4) = true := by decide
theorem test_i_3 : ran { demo [0x3D] [] with regs.a := 0x01, regs.f := 0x00 } (fun t => t.regs.a = 0x00 ∧ t.regs.f = 0xC0 ∧ t.cycles = 4) = true := by decide
theorem test_i_4 : ran { demo [0x3D] [] with regs.a := 0x00, regs.f := 0x00 } (fun t => t.regs.a = 0xFF ∧ t.regs.f = 0x60 ∧ t.cycles = 4) = true := by decide
theorem test_i_6 : ran { demo [0x34] [(0xC100, 0xFF)] with regs.h := 0xC1, regs.l := 0x00, regs.f := 0x00 } (fun t => t.busRead 0xC100 = 0x00 ∧ t.regs.f = 0xA0 ∧ t.cycles = 12) = true := by decide
theorem test_i_7 : ran { demo [0x35] [(0xC100, 0x00)] with regs.h := 0xC1, regs.l := 0x00, regs.f := 0x00 } (fun t => t.busRead 0xC100 = 0xFF ∧ t.regs.f = 0x60 ∧ t.cycles = 12) = true := by decide
theorem test_i_8 : ran { demo [0x13] [] with regs.d := 0xFF, regs.e := 0xFF, regs.f := 0x00 } (fun t => t.pair .de = 0x0000 ∧ t.regs.f = 0x00 ∧ t.cycles = 8) = true := by decide
theorem test_i_9 : ran { demo [0x3B] [] with regs.sp := 0x0000, regs.f := 0xB0 } (fun t => t.regs.sp = 0xFFFF ∧ t.regs.f = 0xB0 ∧ t.cycles = 8) = true := by decide
theorem test_i_10 : ran { demo [0x0B] [] with regs.b := 0x01, regs.c := 0x00 } (fun t => t.pair .bc = 0x00FF ∧ t.cycles = 8) = true := by decide
theorem test_a_1 : ran { demo [0xC6, 0x01] [] with regs.a := 0x0F, regs.f := 0x00 } (fun t => t.regs.a = 0x10 ∧ t.regs.f = 0x20 ∧ t.cycles = 8) = true := by decide
theorem test_a_2 : ran { demo [0xC6, 0x01] [] with regs.a := 0xFF, regs.f := 0x00 } (fun t => t.regs.a = 0x00 ∧ t.regs.f = 0xB0 ∧ t.cycles = 8) = true := by decide
theorem test_a_3 : ran { demo [0x80] [] with regs.a := 0x80, regs.b := 0x80, regs.f := 0x00 } (fun t => t.regs.a = 0x00 ∧ t.regs.f = 0x90 ∧ t.cycles = 4) = true := by decide
theorem test_a_5 : ran { demo [0x87] [] with regs.a := 0x3A, regs.f := 0x00 } (fun t => t.regs.a = 0x74 ∧ t.regs.f = 0x20 ∧ t.cycles = 4) = true := by decide
theorem test_a_6 : ran { demo [0xCE, 0x01] [] with regs.a := 0x0E, regs.f := 0x10 } (fun t => t.regs.a = 0x10 ∧ t.regs.f = 0x20 ∧ t.cycles = 8) = true := by decide
theorem test_a_7 : ran { demo [0xCE, 0x00] [] with regs.a := 0xFF, regs.f := 0x10 } (fun t => t.regs.a = 0x00 ∧ t.regs.f = 0xB0 ∧ t.cycles = 8) = true := by decide
theorem test_a_9 : ran { demo [0xD6, 0x3E] [] with regs.a := 0x3E, regs.f := 0x00 } (fun t => t.regs.a = 0x00 ∧ t.regs.f = 0xC0 ∧ t.cycles = 8) = true := by decide
theorem test_a_10 : ran { demo [0xD6, 0x0F] [] with regs.a := 0x3E, regs.f := 0x00 } (fun t => t.regs.a = 0x2F ∧ t.regs.f = 0x60 ∧ t.cycles = 8) = true := by decide
theorem test_a_12 : ran { demo [0x97] [] with regs.a := 0x10, regs.f := 0x00 } (fun t => t.regs.a = 0x00 ∧ t.regs.f = 0xC0 ∧ t.cycles = 4) = true := by decide
theorem test_a_13 : ran { demo [0xDE, 0x2A] [] with regs.a := 0x3B, regs.f := 0x10 } (fun t => t.regs.a = 0x10 ∧ t.regs.f = 0x40 ∧ t.cycles = 8) = true := by decide
theorem test_a_14 : ran { demo [0xDE, 0xFF] [] with regs.a := 0x00, regs.f := 0x10 } (fun t => t.regs.a = 0x00 ∧ t.regs.f = 0xF0 ∧ t.cycles = 8) = true := by decide
theorem test_a_16 : ran { demo [0xE6, 0x0F] [] with regs.a := 0x5A, regs.f := 0x10 } (fun t => t.regs.a = 0x0A ∧ t.regs.f = 0x20 ∧ t.cycles = 8) = true := by decide
theorem test_a_17 : ran { demo [0xE6, 0xA5] [] with regs.a := 0x5A, regs.f := 0x00 } (fun t => t.regs.a = 0x00 ∧ t.regs.f = 0xA0 ∧ t.cycles = 8) = true := by decide
theorem test_a_18 : ran { demo [0xEE, 0x0F] [] with regs.a := 0xFF, regs.f := 0xF0 } (fun t => t.regs.a = 0xF0 ∧ t.regs.f = 0x00 ∧ t.cycles = 8) = true := by decide
theorem test_a_19 : ran { demo [0xAF] [] with regs.a := 0x5A, regs.f := 0x30 } (fun t => t.regs.a = 0x00 ∧ t.regs.f = 0x80 ∧ t.cycles = 4) = true := by decide
theorem test_a_20 : ran { demo [0xF6, 0x00] [] with regs.a := 0x00, regs.f := 0xF0 } (fun t => t.regs.a = 0x00 ∧ t.regs.f = 0x80 ∧ t.cycles = 8) = true := by decide
theorem test_a_21 : ran { demo [0xF6, 0x0A] [] with regs.a := 0x50, regs.f := 0xF0 } (fun t => t.regs.a = 0x5A ∧ t.regs.f = 0x00 ∧ t.cycles = 8) = true := by decide
theorem test_a_22 : ran { demo [0xFE, 0x3C] [] with regs.a := 0x3C, regs.f := 0x00 } (fun t => t.regs.a = 0x3C ∧ t.regs.f = 0xC0 ∧ t.cycles = 8) = true := by decide
theorem test_a_23 : ran { demo [0xFE, 0x40] [] with regs.a := 0x3C, regs.f := 0x00 } (fun t => t.regs.a = 0x3C ∧ t.regs.f = 0x50 ∧ t.cycles = 8) = true := by decide
theorem test_a_25 : ran { demo [0x09] [] with regs.h := 0x8A, regs.l := 0x23, regs.b := 0x06, regs.c := 0x05, regs.f := 0x80 } (fun t => t.pair .hl = 0x9028 ∧ t.regs.f = 0xA0 ∧ t.cycles = 8) = true := by decide
theorem test_a_26 : ran { demo [0x29] [] with regs.h := 0x8A, regs.l := 0x23, regs.f := 0x00 } (fun t => t.pair .hl = 0x1446 ∧ t.regs.f = 0x30 ∧ t.cycles = 8) = true := by decide
theorem test_a_27 : ran { demo [0x39] [] with regs.h := 0xFF, regs.l := 0xFF, regs.sp := 0x0001, regs.f := 0x00 } (fun t => t.pair .hl = 0x0000 ∧ t.regs.f = 0x30 ∧ t.cycles = 8) = true := by decide
theorem test_a_28 : ran { demo [0xE8, 0x02] [] with regs.sp := 0xFFF8, regs.f := 0xF0 } (fun t => t.regs.sp = 0xFFFA ∧ t.regs.f = 0x00 ∧ t.cycles = 16) = true := by decide
theorem test_a_29 : ran { demo [0xE8, 0x01] [] with regs.sp := 0x000F } (fun t => t.regs.sp = 0x0010 ∧ t.regs.f = 0x20 ∧ t.cycles = 16) = true := by decide
theorem test_s_1 : ran { demo [0x07] [] with regs.a := 0x85, regs.f := 0x00 } (fun t => t.regs.a = 0x0B ∧ t.regs.f = 0x10 ∧ t.cycles = 4) = true := by decide
theorem test_s_2 : ran { demo [0x0F] [] with regs.a := 0x01, regs.f := 0x00 } (fun t => t.regs.a = 0x80 ∧ t.regs.f = 0x10 ∧ t.cycles = 4) = true := by decide
theorem test_s_3 : ran { demo [0x17] [] with regs.a := 0x80, regs.f := 0x00 } (fun t => t.regs.a = 0x00 ∧ t.regs.f = 0x10 ∧ t.cycles = 4) = true := by decide
theorem test_s_4 : ran { demo [0x1F] [] with regs.a := 0x00, regs.f := 0x10 } (fun t => t.regs.a = 0x80 ∧ t.regs.f = 0x00 ∧ t.cycles = 4) = true := by decide
theorem test_s_5 : ran { demo [0x1F] [] with regs.a := 0x01, regs.f := 0x00 } (fun t => t.regs.a = 0x00 ∧ t.regs.f = 0x10 ∧ t.cycles = 4) = true := by decide
theorem test_s_6 : ran { demo [0xCB, 0x00] [] with regs.b := 0x85, regs.f := 0x00 } (fun t => t.regs.b = 0x0B ∧ t.regs.f = 0x10 ∧ t.cycles = 8) = true := by decide
theorem test_s_7 : ran { demo [0xCB, 0x00] [] with regs.b := 0x00, regs.f := 0x10 } (fun t => t.regs.b = 0x00 ∧ t.regs.f = 0x80 ∧ t.cycles = 8) = true := by decide
theorem test_s_8 : ran { demo [0xCB, 0x06] [(0xC100, 0x80)] with regs.h := 0xC1, regs.l := 0x00, regs.f := 0x00 } (fun t => t.busRead 0xC100 = 0x01 ∧ t.regs.f = 0x10 ∧ t.cycles = 16) = true := by decide
theorem test_s_9 : ran { demo [0xCB, 0x09] [] with regs.c := 0x01, regs.f := 0x00 } (fun t => t.regs.c = 0x80 ∧ t.regs.f = 0x10 ∧ t.cycles = 8) = true := by decide
theorem test_s_10 : ran { demo [0xCB, 0x12] [] with regs.d := 0x80, regs.f := 0x00 } (fun t => t.regs.d = 0x00 ∧ t.regs.f = 0x90 ∧ t.cycles = 8) = true := by decide
theorem test_s_11 : ran { demo [0xCB, 0x1B] [] with regs.e := 0x01, regs.f := 0x00 } (fun t => t.regs.e = 0x00 ∧ t.regs.f = 0x90 ∧ t.cycles = 8) = true := by decide
theorem test_s_12 : ran { demo [0xCB, 0x1B] [] with regs.e := 0x8A, regs.f := 0x10 } (fun t => t.regs.e = 0xC5 ∧ t.regs.f = 0x00 ∧ t.cycles = 8) = true := by decide
theorem test_s_13 : ran { demo [0xCB, 0x24] [] with regs.h := 0x80, regs.f := 0x00 } (fun t => t.regs.h = 0x00 ∧ t.regs.f = 0x90 ∧ t.cycles = 8) = true := by decide
theorem test_s_14 : ran { demo [0xCB, 0x2D] [] with regs.l := 0x81, regs.f := 0x00 } (fun t => t.regs.l = 0xC0 ∧ t.regs.f = 0x10 ∧ t.cycles = 8) = true := by decide
theorem test_s_15 : ran { demo [0xCB, 0x37] [] with regs.a := 0xF1, regs.f := 0xF0 } (fun t => t.regs.a = 0x1F ∧ t.regs.f = 0x00 ∧ t.cycles = 8) = true := by decide
theorem test_s_16 : ran { demo [0xCB, 0x37] [] with regs.a := 0x00, regs.f := 0x10 } (fun t => t.regs.a = 0x00 ∧ t.regs.f = 0x80 ∧ t.cycles = 8) = true := by decide
theorem test_s_17 : ran { demo [0xCB, 0x3F] [] with regs.a := 0x01, regs.f := 0x00 } (fun t => t.regs.a = 0x00 ∧ t.regs.f = 0x90 ∧ t.cycles = 8) = true := by decide
theorem test_s_18 : ran { demo [0xCB, 0x7F] [] with regs.a := 0x80, regs.f := 0x10 } (fun t => t.regs.a = 0x80 ∧ t.regs.f = 0x30 ∧ t.cycles = 8) = true := by decide
theorem test_s_19 : ran { demo [0xCB, 0x7F] [] with regs.a := 0x7F, regs.f := 0x00 } (fun t => t.regs.f = 0xA0 ∧ t.cycles = 8) = true := by decide
theorem test_s_20 : ran { demo [0xCB, 0x46] [(0xC100, 0x01)] with regs.h := 0xC1, regs.l := 0x00, regs.f := 0x00 } (fun t => t.regs.f = 0x20 ∧ t.cycles = 12) = true := by decide
theorem test_s_21 : ran { demo [0xCB, 0x87] [] with regs.a := 0xFF, regs.f := 0xF0 } (fun t => t.regs.a = 0xFE ∧ t.regs.f = 0xF0 ∧ t.cycles = 8) = true := by decide
theorem test_s_22 : ran { demo [0xCB, 0xBE] [(0xC100, 0xFF)] with regs.h := 0xC1, regs.l := 0x00 } (fun t => t.busRead 0xC100 = 0x7F ∧ t.cycles = 16) = true := by decide
theorem test_s_23 : ran { demo [0xCB, 0xC0] [] with regs.b := 0x00 } (fun t => t.regs.b = 0x01 ∧ t.cycles = 8) = true := by decide
theorem test_s_24 : ran { demo [0xCB, 0xFE] [(0xC100, 0x00)] with regs.h := 0xC1, regs.l := 0x00 } (fun t => t.busRead 0xC100 = 0x80 ∧ t.cycles = 16) = true := by decide
theorem test_s_25 : ran { demo [0xCB, 0xCB] [] with regs.e := 0x00 } (fun t => t.regs.e = 0x02 ∧ t.cycles = 8) = true := by decide
theorem test_m_1 : ran (demo [0x00] []) (fun t => t.regs.pc = 0xC001 ∧ t.cycles = 4) = true := by decide
theorem test_m_2 : ran { demo [0x76] [] with ie := 0x00, ime := false } (fun t => t.regs.pc = 0xC001 ∧ t.halted = true ∧ t.cycles = 4) = true := by decide
theorem test_m_5 : ran { demo [0xF3] [] with ime := true } (fun t => t.ime = false ∧ t.cycles = 4) = true := by decide
theorem test_m_6 : ran { demo [0xFB] [] with ime := false } (fun t => t.ime = false ∧ t.eiPending = true ∧ t.cycles = 4) = true := by decide
theorem test_m_9 : ran { demo [0x27] [] with regs.a := 0x7D, regs.f := 0x00 } (fun t => t.regs.a = 0x83 ∧ t.regs.f = 0x00 ∧ t.cycles = 4) = true := by decide
theorem test_m_10 : ran { demo [0x27] [] with regs.a := 0x9A, regs.f := 0x00 } (fun t => t.regs.a = 0x00 ∧ t.regs.f = 0x90 ∧ t.cycles = 4) = true := by decide
theorem test_m_14 : ran { demo [0x2F] [] with regs.a := 0x35, regs.f := 0x00 } (fun t => t.regs.a = 0xCA ∧ t.regs.f = 0x60 ∧ t.cycles = 4) = true := by decide
theorem test_m_15 : ran { demo [0x2F] [] with regs.a := 0xFF, regs.f := 0x00 } (fun t => t.regs.a = 0x00 ∧ t.regs.f = 0x60 ∧ t.cycles = 4) = true := by decide
theorem test_m_16 : ran { demo [0x37] [] with regs.f := 0xE0 } (fun t => t.regs.f = 0x90 ∧ t.cycles = 4) = true := by decide
theorem test_m_17 : ran { demo [0x3F] [] with regs.f := 0x30 } (fun t => t.regs.f = 0x00 ∧ t.cycles = 4) = true := by decide
theorem test_m_18 : ran { demo [0x3F] [] with regs.f := 0x80 } (fun t => t.regs.f = 0x90 ∧ t.cycles = 4) = true := by decide
theorem test_l_32 : ran { demo [0xC1] [] with regs.sp := 0xFFFF, ie := 0x1F }
    (fun t => t.pair .bc = 0x001F ∧ t.regs.sp = 0x0001 ∧ t.cycles = 12) = true := by decide
theorem test_j_8 : ran { demo [] [(0xFFFE, 0x18)] with ie := 0x01, regs := { Regs.reset with pc := 0xFFFE } }
    (fun t => t.regs.pc = 0x0001 ∧ t.cycles = 12) = true := by decide
theorem test_m_3 : stopped { demo [0x76] [] with ie := 0x01 } = some (.haltBug 0xC000) := by decide
theorem test_m_4 : stopped (demo [0x10, 0x00] []) = some (.stop 0xC000) := by decide
theorem test_m_7 : ran { demo [0x00] [] with eiPending := true } (fun t => t.ime = true ∧ t.eiPending = false ∧ t.cycles = 4) = true := by decide
theorem test_m_8 : ran { demo [0xF3] [] with eiPending := true } (fun t => t.ime = false ∧ t.eiPending = false ∧ t.cycles = 4) = true := by decide
theorem test_m_19 : ∀ b ∈ ([0xD3, 0xDB, 0xDD, 0xE3, 0xE4, 0xEB, 0xEC, 0xED, 0xF4, 0xFC, 0xFD] : List Byte),
    stopped (demo [b] []) = some (.illegalOpcode b 0xC000) := by decide

/-! The faulted state (60_exceptions R405): pc past the HALT, or at the byte. -/

theorem test_m_3_state : ({ demo [0x76] [] with ie := 0x01 } : State).hostStep.map (fun p => p.1.regs.pc) = some 0xC001 := by decide
theorem test_m_4_state : (demo [0x10, 0x00] []).hostStep.map (fun p => p.1.regs.pc) = some 0xC000 := by decide

/-! Interrupts (95_test_vectors section 2.7). -/

theorem test_int_1 : ran { demo [0x00] [] with ime := true, ie := 0x05, iflag := 0x05, regs.sp := 0xD000 } (fun t =>
    t.busRead 0xFF0F = 0xE4 ∧ t.ime = false ∧ t.regs.sp = 0xCFFE ∧ t.busRead 0xCFFF = 0xC0 ∧ t.busRead 0xCFFE = 0x00 ∧
      t.regs.pc = 0x0041 ∧ t.cycles = 24) = true := by decide
theorem test_int_2 : ran { demo [0x00] [] with ime := true, ie := 0x1F, iflag := 0x10, regs.sp := 0xD000 } (fun t =>
    t.regs.pc = 0x0061 ∧ t.busRead 0xFF0F = 0xE0 ∧ t.cycles = 24) = true := by decide
theorem test_int_4 : ran { demo [0x00] [] with ime := true, ie := 0xE0, iflag := 0x1F } (fun t =>
    t.regs.pc = 0xC001 ∧ t.cycles = 4) = true := by decide
theorem test_int_6 : ran { demo [0x76, 0x3C] [] with halted := true, ie := 0x04, iflag := 0x04, regs := { Regs.reset with a := 0x00, pc := 0xC001 } } (fun t =>
    t.halted = false ∧ t.regs.a = 0x01 ∧ t.regs.pc = 0xC002 ∧ t.busRead 0xFF0F = 0xE4 ∧ t.cycles = 4) = true := by decide
theorem test_int_8 : stopped { demo [0x00] [] with ime := true, ie := 0x01, iflag := 0x01, regs.sp := 0x0001 } = some (.servicePushIE 0xC000) := by
  decide
theorem test_int_9 : ran { demo [0x00] [] with ime := true, ie := 0x01, iflag := 0x01, regs.sp := 0x0002 } (fun t =>
    t.regs.sp = 0x0000 ∧ t.ie = 0x01 ∧ t.regs.pc = 0x0041 ∧ t.cycles = 24) = true := by decide

/-! The timer (95_test_vectors section 2.8): TMA, TAC and TIMA written through the bus, then T-cycles. -/

/-- Vector T-3's start with a given delay. -/
def nearOverflow (delay : Nat) : State :=
  wrote { State.reset with iflag := 0, params.timerReloadDelay := delay } [(0xFF06, 0x80), (0xFF07, 0x05), (0xFF05, 0xFF)]

/-- TIMA and IF after T-cycles. -/
def timaAfter (n : Nat) (s : State) : Byte × BitVec 5 := ((s.timerAdvance n).timer.tima, (s.timerAdvance n).iflag)

theorem test_t_3 : [15, 16, 19, 20].map (fun n => timaAfter n (nearOverflow 4)) = [(0xFF, 0), (0x00, 0), (0x00, 0), (0x80, 4)] := by decide
theorem test_t_5 : [15, 16].map (fun n => timaAfter n (nearOverflow 0)) = [(0xFF, 0), (0x80, 4)] := by decide
theorem test_t_6 : timaAfter 8 (wrote ((nearOverflow 4).timerAdvance 17) [(0xFF05, 0x10)]) = (0x10, 0) := by decide
theorem test_t_7 : timaAfter 3 (wrote ((nearOverflow 4).timerAdvance 17) [(0xFF06, 0x33)]) = (0x33, 4) := by decide

/-! The PPU (95_test_vectors section 2.9). -/

/-- Reset with IF cleared. -/
def dark : State := { State.reset with iflag := 0 }

theorem test_ppu_1_to_3 : [76, 80, 248, 252, 456].map (fun n => (dark.ppuAdvance n).busRead 0xFF41) = [0x86, 0x87, 0x87, 0x84, 0x82] := by
  decide
theorem test_ppu_4 : [65660, 65664].map (fun n => ((dark.ppuAdvance n).ppu.ly, (dark.ppuAdvance n).iflag, (dark.ppuAdvance n).ppu.frameReady)) =
    [(143, 0, false), (144, 1, true)] := by decide +kernel
theorem test_ppu_9 : [248, 252].map (fun n => ((wrote dark [(0xFF41, 0x08)]).ppuAdvance n).iflag) = [0, 2] := by decide
theorem test_ppu_14 : (wrote (dark.ppuAdvance 1000) [(0xFF40, 0x11)]).busRead 0xFF41 = 0x84 := by decide +kernel

/-- The rendering vectors' start: tiles 1 and 2, and the first map row all tile 1. -/
def tiles : State :=
  wrote { dark with ppu.bgp := 0xE4, ppu.obp0 := 0xE4, ppu.obp1 := 0x1B }
    ([(0x8010, 0xF0), (0x8011, 0xCC), (0x8020, 0xFF), (0x8021, 0x00)] ++ (List.range 32).map fun i => (BitVec.ofNat 16 (0x9800 + i), 0x01))

/-- The first 16 shades of line 0 after 252 T-cycles. -/
def firstPixels (s : State) : List Shade := (((s.ppuAdvance 252).ppu.fb[0]?).getD []).take 16

theorem test_r1 : firstPixels tiles = [3, 3, 1, 1, 2, 2, 0, 0, 3, 3, 1, 1, 2, 2, 0, 0] := by decide +kernel
theorem test_r5 : firstPixels (wrote tiles [(0xFE00, 16), (0xFE01, 8), (0xFE02, 2), (0xFE03, 0x80), (0xFF40, 0x93)]) =
    [3, 3, 1, 1, 2, 2, 1, 1, 3, 3, 1, 1, 2, 2, 0, 0] := by decide +kernel
theorem test_r7 : firstPixels (wrote tiles [(0xFE00, 16), (0xFE01, 12), (0xFE02, 2), (0xFE04, 16), (0xFE05, 8), (0xFE06, 2), (0xFE07, 0x10),
    (0xFF40, 0x93)]) = [2, 2, 2, 2, 2, 2, 2, 2, 1, 1, 1, 1, 2, 2, 0, 0] := by decide +kernel
theorem test_r10 : firstPixels (wrote tiles [(0xFF4A, 0x00), (0xFF4B, 0x0B), (0xFF40, 0xF1)]) =
    [3, 3, 1, 1, 0, 0, 0, 0, 0, 0, 0, 0, 0, 0, 0, 0] := by decide +kernel

/-! The joypad, the map and the cartridge (95_test_vectors sections 2.10 to 2.12). -/

theorem test_jp_3_to_5 : ((wrote dark [(0xFF00, 0x10)]).press .a).busRead 0xFF00 = 0xDE ∧
    ((wrote dark [(0xFF00, 0x10)]).press .a).busRead 0xFF0F = 0xF0 ∧
    (wrote ((dark.press .a).press .down) [(0xFF00, 0x00)]).busRead 0xFF00 = 0xC6 := by decide
theorem test_mem_1_2 : (wrote dark [(0xE000, 0x12)]).busRead 0xC000 = 0x12 ∧ (wrote dark [(0xDDFF, 0x34)]).busRead 0xFDFF = 0x34 := by decide
theorem test_mem_4 : [0xFF0F#16, 0xFFFF, 0xFF07, 0xFF04, 0xFF40, 0xFF41, 0xFF46, 0xFF47, 0xFF48].map State.reset.busRead =
    [0xE1, 0x00, 0xF8, 0xAB, 0x91, 0x86, 0xFF, 0xFC, 0xFF] := by decide
theorem test_mem_10 : ((wrote dark [(0xC000, 0x01), (0xC09F, 0x9F), (0xC0A0, 0x77), (0xFF46, 0xC0)]).busRead 0xFE00,
    (wrote dark [(0xC000, 0x01), (0xC09F, 0x9F), (0xC0A0, 0x77), (0xFF46, 0xC0)]).busRead 0xFE9F) = (0x01, 0x9F) := by decide +kernel

/-- An MBC1 cartridge whose bank b starts with the byte b, with 32 KiB of save RAM. -/
def banked (banks : Nat) : State :=
  { dark with cart := some { banking := .mbc1 Mbc1.reset, imageLen := banks * 0x4000,
                             image := Memory.writeAll [] ((List.range banks).map fun b => (b * 0x4000, BitVec.ofNat 8 b)), ramSize := 0x8000, ram := [] } }

theorem test_mbc_2_to_5 :
    (wrote (banked 64) [(0x2000, 0x03)]).busRead 0x4000 = 0x03 ∧ (wrote (banked 64) [(0x2000, 0x20)]).busRead 0x4000 = 0x01 ∧
    (wrote (banked 64) [(0x4000, 0x01)]).busRead 0x4000 = 0x21 ∧ (wrote (banked 64) [(0x4000, 0x01), (0x6000, 0x01)]).busRead 0x0000 = 0x20 := by
  decide +kernel
theorem test_mbc_6 : (wrote (banked 8) [(0x2000, 0x1F)]).busRead 0x4000 = 0x07 := by decide +kernel
theorem test_mbc_10 : (wrote (banked 2) [(0x0000, 0x0A), (0xA000, 0x42), (0x6000, 0x01), (0x4000, 0x02), (0xA000, 0x99), (0x6000, 0x00)]).busRead 0xA000 =
    0x42 := by decide

/-! Witnesses: for each statement with hypotheses, states and operands that meet them, each clause at a boundary of its range. -/

theorem witness_DecodeEncodeRoundTrip : (Instr.jr_e (-128)).wellFormed = true ∧ (Instr.jr_e 127).wellFormed = true ∧ Instr.nop.wellFormed = true := by
  decide

theorem witness_StepRunsDecodedInstruction :
    (demo [0x00] []).ready ∧ (demo [0x00] []).beginStep = .fetch (demo [0x00] []) ∧
    decode [(demo [0x00] []).busRead 0xC000, (demo [0x00] []).busRead 0xC001, (demo [0x00] []).busRead 0xC002] = .ok (.nop, [0x00, 0x00]) ∧
    (∃ w, exec .nop (demo [0x00] []) = .next w) ∧ (∃ r, exec .illegal_D3 (demo [0x00] []) = .fault r) ∧
    ¬ (demo [0x00] []).serviceDue ∧ ¬ (demo [0x00] []).waiting :=
  ⟨⟨by simp [demo, State.resetWith], rfl⟩, rfl, rfl, ⟨_, rfl⟩, ⟨_, rfl⟩, (fun h => nomatch h.1), fun h => nomatch h.1⟩

/-- A state that can step, with one source pending and enabled. -/
def interrupted (k : Fin 5) (sp : Word) : State :=
  { demo [0x00] [] with ime := true, ie := 0xFF, iflag := BitVec.ofNat 5 (2 ^ k.val), regs := { Regs.reset with pc := 0xC000, sp := sp } }

theorem interrupted_ready (k : Fin 5) (sp : Word) : (interrupted k sp).ready := ⟨by simp [interrupted, demo, State.resetWith], rfl⟩

theorem witness_InterruptServiceDispatches : ∀ k : Fin 5, ∀ sp ∈ [0x0000#16, 0x0001, 0x0002, 0xFFFF],
    (interrupted k sp).ready ∧ (interrupted k sp).ime = true ∧ (interrupted k sp).regs.sp = sp ∧
    ((interrupted k sp).ie.getLsbD k.val = true ∧ (interrupted k sp).iflag.getLsbD k.val = true) ∧
    ∀ j < k.val, ¬ ((interrupted k sp).ie.getLsbD j = true ∧ (interrupted k sp).iflag.getLsbD j = true) :=
  fun k sp _ => ⟨interrupted_ready k sp, rfl, rfl,
    by show (0xFF#8).getLsbD k.val = true ∧ (BitVec.ofNat 5 (2 ^ k.val)).getLsbD k.val = true; revert k; decide,
    by show ∀ j < k.val, ¬ ((0xFF#8).getLsbD j = true ∧ (BitVec.ofNat 5 (2 ^ k.val)).getLsbD j = true); revert k; decide⟩

/-- A halted state with nothing pending. -/
def asleep : State := { demo [0x76] [] with halted := true }

theorem witness_HaltedWaitAndWakeUp :
    (asleep.ready ∧ asleep.waiting) ∧
    ({ demo [0x00] [] with ie := 0x01, halted := true } : State).pending ≠ 0 ∧ ({ demo [0x00] [] with ie := 0x01, halted := true } : State).ime = false ∧
    (demo [0x00] []).halted = false ∧ (demo [0x00] []).pending = 0 ∧ (demo [0x00] []).ready ∧
    (demo [0x00] []).beginStep = .fetch (demo [0x00] []) ∧ (∃ w, exec (demo [0x00] []).fetchInstr (demo [0x00] []) = .next w) ∧
    (demo [0xD3] []).ready ∧ (demo [0xD3] []).beginStep = .fetch (demo [0xD3] []) ∧
    (∃ r, exec (demo [0xD3] []).fetchInstr (demo [0xD3] []) = .fault r) :=
  ⟨⟨⟨by simp [asleep, demo, State.resetWith], rfl⟩, rfl, rfl⟩, by decide, rfl, rfl, rfl, ⟨by simp [demo, State.resetWith], rfl⟩, rfl, ⟨_, rfl⟩,
    ⟨by simp [demo, State.resetWith], rfl⟩, rfl, ⟨_, rfl⟩⟩

/-- EI has executed; the next instruction is a NOP, which leaves it pending. -/
def armed : State := { demo [0x00] [] with eiPending := true }

theorem witness_InterruptEnableIsDelayed :
    (armed.ready ∧ armed.beginStep = .fetch armed ∧ armed.eiPending = true ∧
      (∃ w t, exec armed.fetchInstr armed = .next w ∧ w.eiPending = true ∧ step armed = .next t)) ∧
    ((demo [0x00] []).beginStep = .fetch (demo [0x00] []) ∧ (demo [0x00] []).eiPending = false ∧ ¬ (demo [0x00] []).serviceDue) ∧
    ((interrupted 2 0xD000).serviceDue ∧ ∃ u, (interrupted 2 0xD000).beginStep = .fetch u) ∧
    (asleep.waiting ∧ ∃ t, step asleep = .next t) :=
  ⟨⟨⟨by simp [armed, demo, State.resetWith], rfl⟩, rfl, rfl, _, _, rfl, rfl, rfl⟩, ⟨rfl, rfl, fun h => nomatch h.1⟩,
    ⟨⟨rfl, by decide⟩, _, rfl⟩, ⟨rfl, rfl⟩, _, rfl⟩

theorem witness_NopAndInterruptEnables : armed.ready ∧ armed.beginStep = .fetch armed ∧ armed.eiPending = true ∧
    (∃ w t, exec armed.fetchInstr armed = .next w ∧ w.eiPending = true ∧ step armed = .next t) :=
  witness_InterruptEnableIsDelayed.1

/-- Each cause of a stop arises: the service, an illegal byte, STOP and HALT, and the refusal of a step with no image. -/
theorem witness_StepStopsOnlyForNamedCauses :
    stopped (interrupted 0 0x0000) = some (.servicePushIE 0xC000) ∧ stopped (demo [0xFD] []) = some (.illegalOpcode 0xFD 0xC000) ∧
    stopped (demo [0x10] []) = some (.stop 0xC000) ∧ stopped { demo [0x76] [] with ie := 0x01 } = some (.haltBug 0xC000) ∧
    stopped { demo [0x00] [] with fault := some (.stop 0x1234) } = some (.stop 0x1234) ∧ step State.reset = .refused .noImageLoaded :=
  ⟨by decide, by decide, by decide, by decide, by decide, rfl⟩

theorem witness_FaultedStateIsTerminal :
    ((interrupted 0 0x0001).ready ∧ (interrupted 0 0x0001).beginStep = .fault (.servicePushIE 0xC000)) ∧
    ((demo [0xD3] []).ready ∧ (demo [0xD3] []).beginStep = .fetch (demo [0xD3] []) ∧
      exec (demo [0xD3] []).fetchInstr (demo [0xD3] []) = .fault (.illegalOpcode 0xD3 0xC000)) ∧
    ((demo [0x10] []).beginStep = .fetch (demo [0x10] []) ∧ exec (demo [0x10] []).fetchInstr (demo [0x10] []) = .fault (.stop 0xC000)) ∧
    (({ demo [0x76] [] with ie := 0x01 } : State).beginStep = .fetch { demo [0x76] [] with ie := 0x01 } ∧
      exec (State.fetchInstr { demo [0x76] [] with ie := 0x01 }) { demo [0x76] [] with ie := 0x01 } = .fault (.haltBug 0xC000)) ∧
    (({ demo [0x00] [] with fault := some (.stop 0xC000) } : State).cart ≠ none) :=
  ⟨⟨interrupted_ready 0 1, rfl⟩, ⟨⟨by simp [demo, State.resetWith], rfl⟩, rfl, rfl⟩, ⟨rfl, rfl⟩, ⟨rfl, rfl⟩, by simp [demo, State.resetWith]⟩

theorem witness_StepCostIsFourToFortyFour :
    (∃ t, step asleep = .next t ∧ t.cycles = 4) ∧
    (∃ t, step { demo [0x00] [] with cart := some { Cart.blank with image := [(0x40, 0xCD)] }, ime := true, ie := 0x01 } = .next t ∧ t.cycles = 44) :=
  ⟨⟨_, rfl, rfl⟩, _, rfl, rfl⟩

/-- The PPU of the reset state is in its ranges. -/
theorem ppu_reset_wf : Ppu.reset.Wf := by
  refine ⟨by decide, by decide, by decide, by decide, by decide, by decide, ⟨by decide, List.Pairwise.nil, nofun⟩, ?_⟩
  exact ⟨List.length_replicate, fun row h => by rw [(List.mem_replicate.1 h).2]; exact List.length_replicate⟩

/-- A well-formed state with code at C000. -/
theorem demo_wf : (demo [0x00] []).Wf := by
  refine ⟨by unfold Regs.wf; decide, ⟨by decide, by decide⟩, ppu_reset_wf, ⟨⟨List.Pairwise.nil, nofun⟩, nofun⟩, fun c hc => ?_⟩
  cases hc
  exact ⟨by decide, ⟨⟨List.Pairwise.nil, nofun⟩, nofun⟩, ⟨⟨List.Pairwise.nil, nofun⟩, nofun⟩, nofun⟩

theorem witness_StepKeepsWellFormedness : (demo [0x00] []).Wf ∧ ∃ t, step (demo [0x00] []) = .next t := ⟨demo_wf, _, rfl⟩

theorem witness_HostOperationsKeepWellFormedness : (demo [0x00] []).Wf ∧ ∃ t n, (demo [0x00] []).hostStep = some (t, n) := ⟨demo_wf, _, _, rfl⟩

/-- SP at the edges of the plain ranges: the top of HRAM, the foot of work RAM, across the echo's foot, VRAM, OAM and the I/O file. -/
theorem witness_StackRoundTrips : (demo [] []).mem.wf ∧ ∀ sp ∈ [0xFFFF#16, 0xFF82, 0xC002, 0xE000, 0xE001, 0xFE00, 0xFEA0, 0x8002, 0xA000, 0xFF80],
    State.plainAt { demo [] [] with regs.sp := sp } (sp - 1) ∧ State.plainAt { demo [] [] with regs.sp := sp } (sp - 2) := by
  refine ⟨⟨List.Pairwise.nil, nofun⟩, fun sp h => ?_⟩
  simp only [List.mem_cons, List.not_mem_nil, or_false] at h
  rcases h with rfl | rfl | rfl | rfl | rfl | rfl | rfl | rfl | rfl | rfl
  case inr.inr.inr.inr.inr.inr.inl | inr.inr.inr.inr.inr.inr.inr.inl => exact ⟨rfl, rfl⟩
  case inr.inr.inr.inr.inr.inr.inr.inr.inl | inr.inr.inr.inr.inr.inr.inr.inr.inr => exact ⟨rfl, rfl⟩
  all_goals exact ⟨trivial, trivial⟩

theorem witness_PopLoadsThePair : StackReg.bc ≠ .af ∧ StackReg.de ≠ .af ∧ StackReg.hl ≠ .af := by decide

/-- A store's hypotheses: plain storage at the edges of each range. -/
theorem witness_MemoryStores : (demo [] []).mem.wf ∧
    ∀ a ∈ [0x8000#16, 0x9FFF, 0xC000, 0xDFFF, 0xE000, 0xFDFF, 0xFE00, 0xFE9F, 0xFF01, 0xFF7F, 0xFF80, 0xFFFE], (demo [] []).plainAt a := by
  refine ⟨⟨List.Pairwise.nil, nofun⟩, fun a h => ?_⟩
  simp only [List.mem_cons, List.not_mem_nil, or_false] at h
  rcases h with rfl | rfl | rfl | rfl | rfl | rfl | rfl | rfl | rfl | rfl | rfl | rfl <;> trivial

/-! The statements whose frames hold a store or a push have the hypotheses of `MemoryStores`. -/

theorem witness_MemoryIncrementAndDecrement : (demo [] []).mem.wf ∧ (demo [] []).plainAt 0xC000 ∧ (demo [] []).plainAt 0xFFFE :=
  ⟨witness_MemoryStores.1, trivial, trivial⟩

theorem witness_CbRotatesAndShifts : (demo [] []).mem.wf ∧ (demo [] []).plainAt 0xC000 ∧ (demo [] []).plainAt 0xFFFE :=
  ⟨witness_MemoryStores.1, trivial, trivial⟩

theorem witness_BitTestResetAndSet : (demo [] []).mem.wf ∧ (demo [] []).plainAt 0xC000 ∧ (demo [] []).plainAt 0xFFFE :=
  ⟨witness_MemoryStores.1, trivial, trivial⟩

theorem witness_PushStoresThePair : (demo [] []).mem.wf ∧ State.plainAt { demo [] [] with regs.sp := 0xFFFF } (0xFFFF - 1) ∧
    State.plainAt { demo [] [] with regs.sp := 0xFFFF } (0xFFFF - 2) := ⟨witness_MemoryStores.1, trivial, trivial⟩

/-- Each pair clause, and each clause of the frame of a pair. -/
theorem witness_PairLoads : (∀ p : Reg16, p = .bc ∨ p = .de ∨ p = .hl ∨ p = .sp) ∧ Reg16.bc ≠ .sp ∧ Reg16.de ≠ .sp ∧ Reg16.hl ≠ .sp :=
  ⟨fun p => by cases p <;> decide, by decide, by decide, by decide⟩

theorem witness_PairIncrementAndDecrement : Reg16.bc ≠ .sp ∧ Reg16.de ≠ .sp ∧ Reg16.hl ≠ .sp := by decide

theorem witness_DevicesAdvanceByTheCost :
    (State.reset.iflag.getLsbD 0 = true ∧ ({ State.reset with iflag := 0x10 } : State).iflag.getLsbD 4 = true) ∧
    ({ State.reset with ppu.lcdc := 0x11 } : State).ppu.lcdc.getLsbD 7 = false ∧
    (∀ m ∈ [PpuMode.oamSearch, .dataTransfer, .hblank, .vblank],
      ({ State.reset with ppu.mode := m } : State).ppu.lcdc.getLsbD 7 = true ∧ ({ State.reset with ppu.mode := m } : State).ppu.dots = 0 ∧
      0 + (m.budget - 1) < m.budget ∧ m.budget ≤ 0 + m.budget) := by decide

/-- Each condition holds and fails somewhere. -/
theorem witness_ConditionalJumps :
    (∀ cc : Cond, State.cond { State.reset with regs.f := 0x90 } cc = true ∨ State.cond { State.reset with regs.f := 0x00 } cc = true) ∧
    (∀ cc : Cond, State.cond { State.reset with regs.f := 0x90 } cc = false ∨ State.cond { State.reset with regs.f := 0x00 } cc = false) :=
  ⟨fun cc => by cases cc <;> decide, fun cc => by cases cc <;> decide⟩

theorem witness_CallsPushTheReturnAddress : ∀ cc : Cond,
    (∃ s : State, s.cond cc = true) ∧ ∃ s : State, s.cond cc = false := by
  intro cc
  cases cc
  · exact ⟨⟨{ State.reset with regs.f := 0x00 }, by decide⟩, State.reset, by decide⟩
  · exact ⟨⟨State.reset, by decide⟩, { State.reset with regs.f := 0x00 }, by decide⟩
  · exact ⟨⟨{ State.reset with regs.f := 0x00 }, by decide⟩, State.reset, by decide⟩
  · exact ⟨⟨State.reset, by decide⟩, { State.reset with regs.f := 0x00 }, by decide⟩

theorem witness_ReturnsPopThePc : ∀ cc : Cond, (∃ s : State, s.cond cc = true) ∧ ∃ s : State, s.cond cc = false :=
  witness_CallsPushTheReturnAddress

theorem witness_HaltEntersOrFaults :
    ({ demo [] [] with ime := true, ie := 0x01 } : State).ime = true ∧ (demo [] []).pending = 0 ∧
    (demo [] []).ime = false ∧ ({ demo [] [] with ie := 0x01 } : State).pending ≠ 0 ∧
    (asleep.ready ∧ asleep.halted = true ∧ asleep.pending = 0) ∧
    (({ asleep with ie := 0x01 } : State).pending ≠ 0 ∧ ∃ u, ({ asleep with ie := 0x01 } : State).beginStep = .fetch u) :=
  ⟨rfl, rfl, rfl, by decide, ⟨⟨by simp [asleep, demo, State.resetWith], rfl⟩, rfl, rfl⟩, by decide, _, rfl⟩

theorem witness_StopAndIllegalBytesFault : Instr.illegal_D3.illegalByte = some 0xD3 ∧ Instr.illegal_FD.illegalByte = some 0xFD := by decide

theorem witness_DecimalAdjust : ({ State.reset with regs.f := 0x00 } : State).flagN = false ∧ ({ State.reset with regs.f := 0x40 } : State).flagN = true := by
  decide

theorem witness_DecimalArithmeticIsExact : ∀ x : Fin 100, State.reg { State.reset with regs.a := bcd x.val } .a = bcd x.val := fun _ => rfl

/-- The map's clauses, at the edges of each range. -/
theorem witness_BusReadsByTheMap : (demo [] []).cart = some Cart.blank ∧
    (regionOf 0x0000 = .rom ∧ regionOf 0x7FFF = .rom) ∧ (regionOf 0x8000 = .vram ∧ regionOf 0x9FFF = .vram) ∧
    (regionOf 0xA000 = .saveRam ∧ regionOf 0xBFFF = .saveRam) ∧ (regionOf 0xC000 = .wram ∧ regionOf 0xDFFF = .wram) ∧
    (regionOf 0xE000 = .echo ∧ regionOf 0xFDFF = .echo) ∧ (regionOf 0xFE00 = .oam ∧ regionOf 0xFE9F = .oam) ∧
    (regionOf 0xFEA0 = .unusable ∧ regionOf 0xFEFF = .unusable) ∧ (regionOf 0xFF00 = .io ∧ regionOf 0xFF7F = .io) ∧
    (regionOf 0xFF80 = .hram ∧ regionOf 0xFFFE = .hram) ∧ regionOf 0xFFFF = .ie :=
  ⟨rfl, by decide, by decide, by decide, by decide, by decide, by decide, by decide, by decide, by decide, by decide⟩

theorem witness_IoRegistersRead : ∀ a ∈ [0xFF01#16, 0xFF0E, 0xFF10, 0xFF3F, 0xFF4C, 0xFF7F], 0xFF00 ≤ a.toNat ∧ a.toNat ≤ 0xFF7F ∧
    a ∉ [0xFF00#16, 0xFF04#16, 0xFF05#16, 0xFF06#16, 0xFF07#16, 0xFF0F#16, 0xFF40#16, 0xFF41#16, 0xFF42#16, 0xFF43#16, 0xFF44#16,
      0xFF45#16, 0xFF46#16, 0xFF47#16, 0xFF48#16, 0xFF49#16, 0xFF4A#16, 0xFF4B#16] := by
  intro a h
  simp only [List.mem_cons, List.not_mem_nil, or_false] at h
  rcases h with rfl | rfl | rfl | rfl | rfl | rfl <;> exact ⟨by decide, by decide, by decide⟩

/-- `ACCESS_BLOCKING` = hardware in DATA_TRANSFER with the LCD on. -/
def blocked : State := { demo [] [] with params.accessBlocking := .hardware, ppu.mode := .dataTransfer }

theorem witness_StoresToPlainStorage : (blocked.vramBlocked = true ∧ blocked.oamBlocked = true) ∧ ((demo [] []).plainAt 0xC000 ∧ (demo [] []).mem.wf) ∧
    (demo [] []).cart = some Cart.blank ∧ regionOf 0x8000 = .vram ∧ regionOf 0x9FFF = .vram ∧ regionOf 0xFE00 = .oam ∧ regionOf 0xFE9F = .oam ∧
    regionOf 0xFEA0 = .unusable ∧ regionOf 0xFEFF = .unusable ∧ regionOf 0x7FFF = .rom ∧ regionOf 0xA000 = .saveRam ∧ regionOf 0xBFFF = .saveRam :=
  ⟨⟨rfl, rfl⟩, ⟨trivial, List.Pairwise.nil, nofun⟩, rfl, by decide, by decide, by decide, by decide, by decide, by decide, by decide, by decide, by decide⟩

theorem test_mem_11 : blocked.busRead 0x8000 = 0xFF ∧ (wrote blocked [(0xFE00, 0x77)]).mem = [] := by decide

theorem witness_IoWriteEffects : (0x80#8).getLsbD 7 = State.reset.ppu.lcdc.getLsbD 7 := by decide

theorem witness_OamDmaCopies : State.reset.mem.wf := State.reset_mem_wf

/-- An image of the least length a load takes, with the two header bytes given. -/
def header (code size : Byte) : List Byte := List.replicate 0x147 0 ++ [code, 0, size] ++ List.replicate 6 0

theorem witness_RomOnlyCartridge : 0x150 ≤ (header 0x00 0x00).length ∧ (header 0x00 0x00).getD 0x147 0 = 0x00 ∧
    (demo [] []).cart = some Cart.blank ∧ Cart.blank.banking = .romOnly ∧ ({ Cart.blank with imageLen := 0x4000 } : Cart).imageLen = 0x4000 :=
  ⟨by decide +kernel, by decide +kernel, rfl, rfl, rfl⟩

theorem witness_Mbc1Cartridge : (banked 2).cart.map (·.banking) = some (.mbc1 Mbc1.reset) ∧
    (∀ code ∈ [0x01#8, 0x02, 0x03], 0x150 ≤ (header code 0x00).length ∧ (header code 0x00).getD 0x147 0 ∈ [0x01#8, 0x02#8, 0x03#8]) ∧
    [0x0000#16, 0x1FFF, 0x2000, 0x3FFF, 0x4000, 0x5FFF, 0x6000, 0x7FFF, 0xA000, 0xBFFF].map BitVec.toNat =
      [0x0000, 0x1FFF, 0x2000, 0x3FFF, 0x4000, 0x5FFF, 0x6000, 0x7FFF, 0xA000, 0xBFFF] := by
  exact ⟨rfl, by decide +kernel, by decide⟩

theorem witness_TimerCountsItsPeriod :
    ((0#3).toNat % 4 = 0 ∧ (5#3).toNat % 4 = 1 ∧ (6#3).toNat % 4 = 2 ∧ (7#3).toNat % 4 = 3) ∧
    (∀ n ∈ [1, 4], ({ Timer.reset with reloadCd := n } : Timer).enabled = false ∧ 0 < ({ Timer.reset with reloadCd := n } : Timer).reloadCd) ∧
    ({ Timer.reset with tac := 4 } : Timer).tacc + 1023 < ({ Timer.reset with tac := 4 } : Timer).period ∧
    (Timer.reset.enabled = false ∧ Timer.reset.reloadCd = 0) ∧
    (({ Timer.reset with tac := 5 } : Timer).enabled = true ∧ ({ Timer.reset with tac := 5 } : Timer).tacc = 0 ∧
      ({ Timer.reset with tac := 5, tima := 0xFF } : Timer).tima.toNat + 0 ≤ 0xFF ∧ ({ Timer.reset with tac := 5 } : Timer).tima.toNat + 255 ≤ 0xFF) ∧
    (∀ d ∈ [0, 4, 15], ({ Timer.reset with tac := 5, tima := 0xFF, tacc := 15 } : Timer).enabled = true ∧
      ({ Timer.reset with tac := 5, tima := 0xFF, tacc := 15 } : Timer).reloadCd = 0 ∧
      ({ Timer.reset with tac := 5, tima := 0xFF, tacc := 15 } : Timer).tima = 0xFF ∧
      ({ Timer.reset with tac := 5, tima := 0xFF, tacc := 15 } : Timer).tacc + 1 = ({ Timer.reset with tac := 5, tima := 0xFF, tacc := 15 } : Timer).period ∧
      d < ({ Timer.reset with tac := 5, tima := 0xFF, tacc := 15 } : Timer).period) := by decide

theorem witness_FramePositionAdvances : (demo [0x00] []).ppu.Wf ∧ (demo [0x00] []).ppu.lcdOn = true := ⟨ppu_reset_wf, rfl⟩

theorem witness_LcdSwitchStopsAndStarts : State.reset.ppu.lcdc.getLsbD 7 = true ∧ (0x11#8).getLsbD 7 = false ∧ (0x91#8).getLsbD 7 = true ∧
    ({ State.reset with ppu.lcdc := 0x11 } : State).ppu.lcdc.getLsbD 7 = false := by decide

theorem witness_OamSearchKeepsTenSprites : (tiles.ppu.spriteVisible ⟨8, 39, 16, 0, 0⟩ = true) ∧ (tiles.ppu.spriteVisible ⟨8, 0, 8, 0, 0⟩ = false) := by
  decide +kernel

theorem witness_LineEndsAndStatusRequests :
    ({ State.reset with ppu.ly := 153 } : State).ppu.ly.toNat ≤ 153 ∧ ({ State.reset with ppu.ly := 0 } : State).ppu.ly.toNat ≤ 153 ∧
    ({ State.reset with ppu.ly := 143 } : State).ppu.ly + 1 = 144 := by decide

/-- The window on, its left edge at column wx - 7 of the lines from wy on. -/
def windowed (wx wy ly : Byte) : State := { tiles with ppu.lcdc := 0xF1, ppu.wx := wx, ppu.wy := wy, ppu.ly := ly }

theorem witness_LineRendersBackground :
    (∀ ly ∈ [0x00#8, 143], ({ tiles with ppu.ly := ly } : State).ppu.ly.toNat < ({ tiles with ppu.ly := ly } : State).ppu.fb.length) ∧
    (tiles.ppu.lcdc.getLsbD 1 = false ∧ tiles.ppu.lcdc.getLsbD 0 = true ∧ tiles.ppu.windowCovers 0 = false ∧ tiles.ppu.windowCovers 159 = false) ∧
    (({ tiles with ppu.lcdc := 0x80 } : State).ppu.lcdc.getLsbD 1 = false ∧ ({ tiles with ppu.lcdc := 0x80 } : State).ppu.lcdc.getLsbD 0 = false) := by
  decide +kernel

/-- The window's edges: its first column, the last column, and the first line (60_exceptions R453). -/
theorem witness_LineRendersBackground_window :
    (windowed 11 0 0).ppu.lcdc.getLsbD 0 = true ∧ (windowed 11 0 0).ppu.windowCovers 3 = false ∧ (windowed 11 0 0).ppu.windowCovers 4 = true ∧
    (windowed 166 0 143).ppu.windowCovers 159 = true ∧ (windowed 167 0 143).ppu.windowCovers 159 = false ∧
    (windowed 7 5 5).ppu.windowCovers 0 = true ∧ (windowed 7 5 4).ppu.windowCovers 0 = false := by decide

/-- Two sprites on line 0 of tile 1, whose last two columns are transparent, and tile 2. -/
def twoSprites : State :=
  { tiles with ppu.lcdc := 0x93, ppu.sprites := [⟨8, 0, 16, 1, 0x00⟩, ⟨8, 1, 16, 2, 0x80⟩] }

theorem witness_FirstOpaqueSpriteDecides :
    (twoSprites.ppu.lcdc.getLsbD 1 = true ∧ twoSprites.ppu.sprites = [⟨8, 0, 16, 1, 0x00⟩] ++ ⟨8, 1, 16, 2, 0x80⟩ :: [] ∧
      twoSprites.spriteIndex ⟨8, 0, 16, 1, 0x00⟩ 7 = 0 ∧ Sprite.covers ⟨8, 1, 16, 2, 0x80⟩ 7 = true ∧ twoSprites.spriteIndex ⟨8, 1, 16, 2, 0x80⟩ 7 ≠ 0 ∧
      twoSprites.spriteIndex ⟨8, 0, 16, 1, 0x00⟩ 0 ≠ 0) ∧
    tiles.ppu.lcdc.getLsbD 1 = false ∧ (∀ p ∈ twoSprites.ppu.sprites, p.covers 8 = false) ∧
    ({ tiles with ppu.lcdc := 0x80 } : State).ppu.lcdc.getLsbD 0 = false := by decide +kernel

/-- Sprites at the edges of the height: the first and last rows of 8 and of 16, flipped or not (60_exceptions R454). -/
theorem witness_FirstOpaqueSpriteDecides_pixel :
    (∀ x ∈ [0, 7], Sprite.covers ⟨8, 0, 16, 1, 0x00⟩ x = true) ∧ Sprite.covers ⟨8, 0, 16, 1, 0x00⟩ 8 = false ∧
    Sprite.covers ⟨167, 0, 16, 1, 0x60⟩ 159 = true ∧ Sprite.covers ⟨167, 0, 16, 1, 0x60⟩ 158 = false ∧
    (twoSprites.ppu.lcdc.getLsbD 2 = false ∧ ∀ r ∈ [0, 7], ((BitVec.ofNat 8 r).toNat : Int) = ((16#8).toNat : Int) - 16 + r ∧ r < 8) ∧
    (({ twoSprites with ppu.lcdc := 0x97 } : State).ppu.lcdc.getLsbD 2 = true ∧ ((0#8).toNat : Int) = ((1#8).toNat : Int) - 16 + (15 : Nat) ∧
      ((7#8).toNat : Int) = ((16#8).toNat : Int) - 16 + (7 : Nat) ∧ ((8#8).toNat : Int) = ((16#8).toNat : Int) - 16 + (8 : Nat)) := by
  decide

theorem witness_ButtonsChangeTheirBit_step : ∃ t, step (demo [0x00] []) = .next t := ⟨_, rfl⟩

theorem witness_ButtonsChangeTheirBit : (State.reset.press .a).joy ≠ State.reset.joy ∧ (State.reset.release .a).joy = State.reset.joy ∧
    ((State.reset.press .a).release .a).joy ≠ (State.reset.press .a).joy ∧ ((State.reset.press .down).press .down).joy = (State.reset.press .down).joy := by
  decide

theorem witness_FrameSignalAndBuffer : frameBufferWf State.reset.ppu.fb ∧ State.reset.ppu.fb[143]? = some (List.replicate 160 0) :=
  ⟨ppu_reset_wf.frame, by decide⟩

theorem witness_RunConsumesItsBudget : (demo [0x00] []).cart ≠ none ∧ ((demo [0x00] []).hostRun 0).map (·.2) = some 0 ∧
    ((demo [0x00] []).hostRun 1).map (·.2) = some 4 ∧ ((demo [0xD3] []).hostRun 1).map (·.1.fault) = some (some (.illegalOpcode 0xD3 0xC000)) := by
  decide

/-- A step that completes, one that faults after it, and an empty slot. -/
theorem witness_RunConsumesItsBudget_step : (∃ t, step (demo [0x00] []) = .next t) ∧ State.reset.cart = none ∧
    ((demo [0x00, 0xD3] []).hostRun 44).map (fun p => (p.1.fault, p.2)) = some (some (.illegalOpcode 0xD3 0xC001), 4) :=
  ⟨⟨_, rfl⟩, rfl, by decide⟩

theorem witness_LoadReplacesTheCartridge :
    (∀ code ∈ [0x00#8, 0x01, 0x02, 0x03], ∀ size ∈ [0x00#8, 0x01, 0x02, 0x03],
      0x150 ≤ (header code size).length ∧ (header code size).getD 0x147 0 = code ∧ (header code size).getD 0x149 0 = size) ∧
    ((header 0x00 0x00).drop 1).length < 0x150 ∧ (header 0x04 0x00).getD 0x147 0 ∉ [0x00#8, 0x01#8, 0x02#8, 0x03#8] ∧
    State.reset.params.initSaveRam.wf := by
  exact ⟨by decide +kernel, by decide +kernel, by decide +kernel, List.Pairwise.nil, nofun⟩

theorem witness_ResetSetsEveryRegister : State.reset.params.initRam.wf ∧ (demo [] []).cart = some Cart.blank ∧ State.reset.cart = none :=
  ⟨⟨List.Pairwise.nil, nofun⟩, rfl, rfl⟩

end Sys2Proof.Tests
end

/-! PROOFS. The statements of 10_state: a step keeps the machine well formed, and what the buttons do to the masks. -/

namespace Sys2Proof.Machine

open Sys2Proof

/-! Every update that an instruction is made of keeps the machine well formed. -/

section
variable {s : State} (hs : s.Wf)
include hs

/-- Of the register file, the control bits and the cost, the invariant reads F's low bits alone (10_state R33). -/
theorem State.Wf.withCore {g : Regs} (hg : g.wf) (i e h : Bool) (n : Nat) :
    State.Wf { s with regs := g, ime := i, eiPending := e, halted := h, cycles := n } :=
  hs.of_parts hg rfl rfl rfl rfl rfl

theorem State.Wf.withRegs {g : Regs} (hg : g.wf) : State.Wf { s with regs := g } :=
  hs.withCore hg s.ime s.eiPending s.halted s.cycles

theorem State.Wf.withEnables (i e : Bool) : State.Wf { s with ime := i, eiPending := e } :=
  hs.withCore hs.regs i e s.halted s.cycles

theorem State.Wf.addCycles (n : Nat) : (s.addCycles n).Wf :=
  hs.withCore hs.regs s.ime s.eiPending s.halted (s.cycles + n)

theorem State.Wf.setPc (v : Word) : (s.setPc v).Wf := hs.withRegs hs.regs

theorem State.Wf.pass (len cost : Nat) : (s.pass len cost).Wf := (hs.setPc _).addCycles cost

theorem State.Wf.setReg (r : Reg8) (v : Byte) : (s.setReg r v).Wf := by
  refine hs.withRegs ?_
  rw [Regs.wf, Regs.set_f]
  exact hs.regs

theorem State.Wf.setPair (p : Reg16) (v : Word) : (s.setPair p v).Wf := by
  refine hs.withRegs ?_
  rw [Regs.wf, Regs.setPair_f]
  exact hs.regs

theorem State.Wf.setFlags (z n h c : Bool) : (s.setFlags z n h c).Wf := hs.withRegs (packFlags_low z n h c)

theorem State.Wf.setAluFlags (o : AluOut) : (s.setAluFlags o).Wf := hs.setFlags o.z o.n o.h o.c

/-- A pop into AF drops F's low nibble (10_state R31). -/
theorem State.Wf.setStackPair (q : StackReg) (v : Word) : (s.setStackPair q v).Wf := by
  cases q with
  | af =>
    refine hs.withRegs (?_ : loByte v &&& 0xF0 &&& 0x0F = 0)
    rw [BitVec.and_assoc]
    exact BitVec.and_zero
  | bc => exact hs.setPair .bc v
  | de => exact hs.setPair .de v
  | hl => exact hs.setPair .hl v

theorem State.Wf.dst8 (o : Operand8) (v : Byte) : (s.dst8 o v).Wf := by
  cases o with
  | reg r => exact hs.setReg r v
  | atHL => exact hs.busWrite s.hl v

theorem State.Wf.popDone : s.popDone.Wf := hs.setPair .sp _

theorem State.Wf.popPc : s.popPc.Wf := hs.popDone.setPc _

theorem State.Wf.aluWith (op : AluOp) (v : Byte) : (Machine.aluWith op v s).Wf := by
  unfold Machine.aluWith
  split
  · exact hs.setAluFlags _
  · exact (hs.setReg _ _).setAluFlags _

theorem State.Wf.call (nn : Word) : (Machine.call nn s).Wf := (hs.push16 _).setPc nn

/-- A conditional jump, call or return: the same state, or the taken one with its extra cost (30_encoding R154). -/
theorem State.Wf.taken {t : State} (ht : t.Wf) (b : Bool) (n : Nat) : State.Wf (if b then t.addCycles n else s) := by
  split
  · exact ht.addCycles n
  · exact hs

/-- Taking an interrupt keeps the machine well formed (60_exceptions R402). -/
theorem State.Wf.takeInterrupt (k : IrqSource) : (s.takeInterrupt k).Wf := by
  have h1 : State.Wf { s with iflag := s.iflag &&& ~~~k.mask, ime := false, eiPending := false } :=
    hs.of_parts hs.regs rfl rfl rfl rfl rfl
  exact ((h1.push16 _).setPc _).addCycles 20

/-- The EI promotion keeps the machine well formed (60_exceptions R403). -/
theorem State.Wf.promoteEi (armed : Bool) : (s.promoteEi armed).Wf :=
  hs.of_devices (State.promoteEi_devices s armed) (State.promoteEi_params s armed)
    (by rw [State.promoteEi_regs]; exact hs.regs)

end

theorem State.Wf.of_next {o : Result} {t u : State} (ht : o = .next t) (hu : o = .next u) (h : u.Wf) : t.Wf := by
  cases ht.symm.trans hu
  exact h

/-- Every instruction keeps the machine well formed: each family's meaning is a chain of updates that do. -/
theorem State.Wf.exec {s t : State} (hs : s.Wf) (i : Instr) (ht : Machine.exec i s = .next t) : t.Wf := by
  induction i using Instr.byFamily
  case ldRegReg dst r => exact .of_next ht (exec_ldRegReg s dst r) ((hs.pass 1 4).setReg ..)
  case ldRegImm dst n => exact .of_next ht (exec_ldRegImm s dst n) ((hs.pass 2 8).setReg ..)
  case ldRegAtHL dst => exact .of_next ht (exec_ldRegAtHL s dst) ((hs.pass 1 8).setReg ..)
  case ldAtHLReg r => exact .of_next ht (exec_ldAtHLReg s r) ((hs.pass 1 8).busWrite ..)
  case ldAtHLImm n => exact .of_next ht (exec_ldAtHLImm s n) ((hs.pass 2 12).busWrite ..)
  case ldAAtBC => exact .of_next ht (exec_ldAAtBC s) ((hs.pass 1 8).setReg ..)
  case ldAAtDE => exact .of_next ht (exec_ldAAtDE s) ((hs.pass 1 8).setReg ..)
  case ldAtBCA => exact .of_next ht (exec_ldAtBCA s) ((hs.pass 1 8).busWrite ..)
  case ldAtDEA => exact .of_next ht (exec_ldAtDEA s) ((hs.pass 1 8).busWrite ..)
  case ldAAbs nn => exact .of_next ht (exec_ldAAbs s nn) ((hs.pass 3 16).setReg ..)
  case ldAbsA nn => exact .of_next ht (exec_ldAbsA s nn) ((hs.pass 3 16).busWrite ..)
  case ldhA n => exact .of_next ht (exec_ldhA s n) ((hs.pass 2 12).setReg ..)
  case ldhStoreA n => exact .of_next ht (exec_ldhStoreA s n) ((hs.pass 2 12).busWrite ..)
  case ldAHighC => exact .of_next ht (exec_ldAHighC s) ((hs.pass 1 8).setReg ..)
  case ldHighCA => exact .of_next ht (exec_ldHighCA s) ((hs.pass 1 8).busWrite ..)
  case ldAtHLIncA => exact .of_next ht (exec_ldAtHLIncA s) (((hs.pass 1 8).busWrite ..).setPair ..)
  case ldAAtHLInc => exact .of_next ht (exec_ldAAtHLInc s) (((hs.pass 1 8).setReg ..).setPair ..)
  case ldAtHLDecA => exact .of_next ht (exec_ldAtHLDecA s) (((hs.pass 1 8).busWrite ..).setPair ..)
  case ldAAtHLDec => exact .of_next ht (exec_ldAAtHLDec s) (((hs.pass 1 8).setReg ..).setPair ..)
  case ldPairImm p nn => exact .of_next ht (exec_ldPairImm s p nn) ((hs.pass 3 12).setPair ..)
  case ldAbsSP nn => exact .of_next ht (exec_ldAbsSP s nn) (((hs.pass 3 20).busWrite ..).busWrite ..)
  case ldSPHL => exact .of_next ht (exec_ldSPHL s) ((hs.pass 1 8).setPair ..)
  case ldHLSPPlus e => exact .of_next ht (exec_ldHLSPPlus s e) (((hs.pass 2 12).setPair ..).setFlags ..)
  case push q => exact .of_next ht (exec_push s q) ((hs.pass 1 16).push16 _)
  case pop q => exact .of_next ht (exec_pop s q) ((hs.pass 1 12).popDone.setStackPair ..)
  case jump nn => exact .of_next ht (exec_jump s nn) ((hs.pass 3 16).setPc _)
  case jumpCond cc nn => exact .of_next ht (exec_jumpCond s cc nn) ((hs.pass 3 12).taken ((hs.pass 3 12).setPc _) ..)
  case jumpHL => exact .of_next ht (exec_jumpHL s) ((hs.pass 1 4).setPc _)
  case jumpRel e => exact .of_next ht (exec_jumpRel s e) ((hs.pass 2 12).setPc _)
  case jumpRelCond cc e => exact .of_next ht (exec_jumpRelCond s cc e) ((hs.pass 2 8).taken ((hs.pass 2 8).setPc _) ..)
  case call nn => exact .of_next ht (exec_call s nn) ((hs.pass 3 24).call _)
  case callCond cc nn => exact .of_next ht (exec_callCond s cc nn) ((hs.pass 3 12).taken ((hs.pass 3 12).call _) ..)
  case ret => exact .of_next ht (exec_ret s) (hs.pass 1 16).popPc
  case retCond cc => exact .of_next ht (exec_retCond s cc) ((hs.pass 1 8).taken (hs.pass 1 8).popPc ..)
  case reti => exact .of_next ht (exec_reti s) ((hs.pass 1 16).popPc.withEnables ..)
  case rst y => exact .of_next ht (exec_rst s y) ((hs.pass 1 16).call _)
  case incReg r => exact .of_next ht (exec_incReg s r) (((hs.pass 1 4).setReg ..).setAluFlags _)
  case decReg r => exact .of_next ht (exec_decReg s r) (((hs.pass 1 4).setReg ..).setAluFlags _)
  case incAtHL => exact .of_next ht (exec_incAtHL s) (((hs.pass 1 12).busWrite ..).setAluFlags _)
  case decAtHL => exact .of_next ht (exec_decAtHL s) (((hs.pass 1 12).busWrite ..).setAluFlags _)
  case incPair p => exact .of_next ht (exec_incPair s p) ((hs.pass 1 8).setPair ..)
  case decPair p => exact .of_next ht (exec_decPair s p) ((hs.pass 1 8).setPair ..)
  case alu op o => exact .of_next ht (exec_alu s op o) ((hs.pass 1 _).aluWith ..)
  case aluImm op n => exact .of_next ht (exec_aluImm s op n) ((hs.pass 2 8).aluWith ..)
  case addHL p => exact .of_next ht (exec_addHL s p) (((hs.pass 1 8).setPair ..).setFlags ..)
  case addSP e => exact .of_next ht (exec_addSP s e) (((hs.pass 2 16).setPair ..).setFlags ..)
  case rlca => exact .of_next ht (exec_rlca s) (((hs.pass 1 4).setReg ..).setFlags ..)
  case rrca => exact .of_next ht (exec_rrca s) (((hs.pass 1 4).setReg ..).setFlags ..)
  case rla => exact .of_next ht (exec_rla s) (((hs.pass 1 4).setReg ..).setFlags ..)
  case rra => exact .of_next ht (exec_rra s) (((hs.pass 1 4).setReg ..).setFlags ..)
  case rot op o => exact .of_next ht (exec_rot s op o) (((hs.pass 2 _).dst8 ..).setAluFlags _)
  case bitTest b o => exact .of_next ht (exec_bitTest s b o) ((hs.pass 2 _).setFlags ..)
  case bitReset b o => exact .of_next ht (exec_bitReset s b o) ((hs.pass 2 _).dst8 ..)
  case bitSet b o => exact .of_next ht (exec_bitSet s b o) ((hs.pass 2 _).dst8 ..)
  case nop => exact .of_next ht (exec_nop s) (hs.pass 1 4)
  case di => exact .of_next ht (exec_di s) ((hs.pass 1 4).withEnables ..)
  case ei => exact .of_next ht (exec_ei s) ((hs.pass 1 4).withEnables ..)
  case daa => exact .of_next ht (exec_daa s) (((hs.pass 1 4).setReg ..).setAluFlags _)
  case cpl => exact .of_next ht (exec_cpl s) (((hs.pass 1 4).setReg ..).setFlags ..)
  case scf => exact .of_next ht (exec_scf s) ((hs.pass 1 4).setFlags ..)
  case ccf => exact .of_next ht (exec_ccf s) ((hs.pass 1 4).setFlags ..)
  case halt =>
    have hp := hs.pass 1 4
    rw [exec_halt, haltOr] at ht
    split at ht
    · cases ht
    · cases ht
      exact hp.withCore hp.regs _ _ true _
  case stop n => rw [exec_stop] at ht; cases ht
  case illegal i b hb => rw [exec_illegal s hb] at ht; cases ht

/-- The state an engine step fetches from: after the wake-up and at most one service (60_exceptions R401, R402). -/
theorem State.Wf.beginStep {s u : State} (hs : s.Wf) (hu : s.beginStep = .fetch u) : u.Wf := by
  have hw : State.Wf { s with cycles := 0, halted := false } := hs.withCore hs.regs s.ime s.eiPending false 0
  rcases s.beginStep_cases with ⟨k, -, -, -, e⟩ | ⟨k, -, -, -, e⟩ | ⟨-, -, e⟩ | ⟨-, -, e⟩ <;> rw [e] at hu <;> cases hu
  · exact hw.takeInterrupt k
  · exact hw

/-- Settles O12: a step is a wait, or the engine's start, an instruction and the EI promotion, each followed by the devices' advance, and
each of these parts keeps the machine well formed. -/
theorem stepKeepsWellFormedness : Obligations.StepKeepsWellFormedness := by
  unfold Obligations.StepKeepsWellFormedness
  intro s t hs h
  obtain ⟨-, -, ⟨-, rfl⟩ | ⟨u, w, hu, hw, rfl⟩⟩ := step_cases h
  · exact (hs.withCore hs.regs s.ime s.eiPending s.halted 4).advanceDevices
  · exact (((hs.beginStep hu).exec _ hw).promoteEi _).advanceDevices

/-! The buttons (10_state R52, 60_exceptions R470, R471). -/

/-- Whether or not the masks change, they are the given ones afterwards. -/
@[simp] theorem State.setJoypad_joy (s : State) (j : Joypad) : (s.setJoypad j).joy = j := by
  unfold State.setJoypad
  split
  · exact Eq.symm ‹_›
  · rfl

theorem State.setJoypad_of_ne {s : State} {j : Joypad} (h : j ≠ s.joy) :
    s.setJoypad j = { s with joy := j, iflag := s.iflag ||| 0b10000#5 } := if_neg h

theorem State.setJoypad_of_eq {s : State} {j : Joypad} (h : j = s.joy) : s.setJoypad j = s := if_pos h

theorem State.press_joy (s : State) (k : Button) : (s.press k).joy = s.joy.mapMask k fun m => m &&& ~~~k.mask :=
  s.setJoypad_joy _

theorem State.release_joy (s : State) (k : Button) : (s.release k).joy = s.joy.mapMask k fun m => m ||| k.mask :=
  s.setJoypad_joy _

theorem Joypad.mapMask_idem {f : BitVec 4 → BitVec 4} (hf : ∀ m, f (f m) = f m) (j : Joypad) (k : Button) :
    (j.mapMask k f).mapMask k f = j.mapMask k f := by
  cases h : k.isDirection <;> simp [Joypad.mapMask, h, hf]

/-- A repeated press changes nothing (60_exceptions R471). -/
theorem State.press_press (s : State) (k : Button) : (s.press k).press k = s.press k := by
  refine State.setJoypad_of_eq ?_
  rw [State.press_joy]
  exact Joypad.mapMask_idem (fun m => by rw [BitVec.and_assoc, BitVec.and_self]) s.joy k

/-- A repeated release changes nothing (60_exceptions R471). -/
theorem State.release_release (s : State) (k : Button) : (s.release k).release k = s.release k := by
  refine State.setJoypad_of_eq ?_
  rw [State.release_joy]
  exact Joypad.mapMask_idem (fun m => by rw [BitVec.or_assoc, BitVec.or_self]) s.joy k

/-- What an event that moves the masks to `j` does: they change with a JOYPAD request, or nothing changes (60_exceptions R471). -/
theorem State.setJoypad_changes (s : State) (j : Joypad) :
    ((s.setJoypad j).joy ≠ s.joy → s.setJoypad j = { s with joy := (s.setJoypad j).joy, iflag := s.iflag ||| 0b10000#5 }) ∧
    ((s.setJoypad j).joy = s.joy → s.setJoypad j = s) := by
  rw [State.setJoypad_joy]
  exact ⟨State.setJoypad_of_ne, State.setJoypad_of_eq⟩

/-- Settles O56: an event replaces one mask and requests JOYPAD where that changes it, the sixteen masks are its cases, and neither a step
(`step_joyMasks`) nor a reset moves a mask otherwise. -/
theorem buttonsChangeTheirBit : Obligations.ButtonsChangeTheirBit := by
  unfold Obligations.ButtonsChangeTheirBit
  refine ⟨fun s k => ?_, fun s => ?_, fun s t h => ?_, fun s => ⟨rfl, rfl, rfl, rfl⟩⟩
  · obtain ⟨pressed, pressedAgain⟩ := s.setJoypad_changes (s.joy.mapMask k fun m => m &&& ~~~k.mask)
    obtain ⟨released, releasedAgain⟩ := s.setJoypad_changes (s.joy.mapMask k fun m => m ||| k.mask)
    exact ⟨s.press_joy k, s.release_joy k, pressed, pressedAgain, released, releasedAgain, s.press_press k, s.release_release k⟩
  · simp only [State.press_joy, State.release_joy]
    refine ⟨rfl, rfl, rfl, rfl, rfl, rfl, rfl, rfl, rfl, rfl, rfl, rfl, rfl, rfl, rfl, rfl⟩
  · exact Prod.mk.inj (step_joyMasks h)

end Sys2Proof.Machine

/-! What a bus access does in each range of the map (20_memory R100, R101). -/

namespace Sys2Proof.Machine

section
variable {s : State} {a : Word} {c : Cart}

theorem State.busRead_rom (h : regionOf a = .rom) (hc : s.cart = some c) : s.busRead a = c.readRom a.toNat := by
  simp only [State.busRead, h, State.romRead, hc]

theorem State.busRead_vram (h : regionOf a = .vram) : s.busRead a = if s.vramBlocked then 0xFF else s.mem.read a.toNat := by
  simp only [State.busRead, h]

theorem State.busRead_saveRam (h : regionOf a = .saveRam) (hc : s.cart = some c) : s.busRead a = c.readRam a.toNat := by
  simp only [State.busRead, h, State.saveRamRead, hc]

theorem State.busRead_wram (h : regionOf a = .wram) : s.busRead a = s.mem.read a.toNat := by
  simp only [State.busRead, h]

theorem State.busRead_echo (h : regionOf a = .echo) : s.busRead a = s.mem.read (a.toNat - 0x2000) := by
  simp only [State.busRead, h]

theorem State.busRead_oam (h : regionOf a = .oam) : s.busRead a = if s.oamBlocked then 0xFF else s.mem.read a.toNat := by
  simp only [State.busRead, h]

theorem State.busRead_unusable (h : regionOf a = .unusable) : s.busRead a = 0xFF := by
  simp only [State.busRead, h]

theorem State.busRead_io (h : regionOf a = .io) : s.busRead a = s.ioRead a := by
  simp only [State.busRead, h]

theorem State.busRead_hram (h : regionOf a = .hram) : s.busRead a = s.mem.read a.toNat := by
  simp only [State.busRead, h]

theorem State.busWrite_rom (h : regionOf a = .rom) (v : Byte) : s.busWrite a v = s.mapCart fun c => c.writeRom a.toNat v := by
  simp only [State.busWrite, h]

theorem State.busWrite_saveRam (h : regionOf a = .saveRam) (v : Byte) :
    s.busWrite a v = s.mapCart fun c => c.writeRam a.toNat v := by
  simp only [State.busWrite, h]

theorem State.busWrite_vram_blocked (h : regionOf a = .vram) (hb : s.vramBlocked = true) (v : Byte) : s.busWrite a v = s := by
  simp only [State.busWrite, h, hb, if_true]

theorem State.busWrite_oam_blocked (h : regionOf a = .oam) (hb : s.oamBlocked = true) (v : Byte) : s.busWrite a v = s := by
  simp only [State.busWrite, h, hb, if_true]

theorem State.busWrite_unusable (h : regionOf a = .unusable) (v : Byte) : s.busWrite a v = s := by
  simp only [State.busWrite, h]

theorem State.busWrite_io (h : regionOf a = .io) (v : Byte) : s.busWrite a v = s.ioWrite a v := by
  simp only [State.busWrite, h]

/-- With an image loaded, an access to the cartridge's ranges replaces that cartridge alone. -/
theorem State.mapCart_of_some (hc : s.cart = some c) (f : Cart → Cart) : s.mapCart f = { s with cart := some (f c) } := by
  rw [State.mapCart, hc]
  rfl

theorem State.mapCart_of_fixed (hc : s.cart = some c) {f : Cart → Cart} (hf : f c = c) : s.mapCart f = s := by
  rw [State.mapCart_of_some hc, hf, ← hc]

end

section
variable {a : Word}

theorem regionOf_rom (h : a.toNat ≤ 0x7FFF) : regionOf a = .rom :=
  regionOf_eq (r := .rom) (Nat.zero_le _) (Nat.lt_succ_of_le h)

theorem regionOf_vram (h1 : 0x8000 ≤ a.toNat) (h2 : a.toNat ≤ 0x9FFF) : regionOf a = .vram :=
  regionOf_eq (r := .vram) h1 (Nat.lt_succ_of_le h2)

theorem regionOf_saveRam (h1 : 0xA000 ≤ a.toNat) (h2 : a.toNat ≤ 0xBFFF) : regionOf a = .saveRam :=
  regionOf_eq (r := .saveRam) h1 (Nat.lt_succ_of_le h2)

theorem regionOf_wram (h1 : 0xC000 ≤ a.toNat) (h2 : a.toNat ≤ 0xDFFF) : regionOf a = .wram :=
  regionOf_eq (r := .wram) h1 (Nat.lt_succ_of_le h2)

theorem regionOf_echo (h1 : 0xE000 ≤ a.toNat) (h2 : a.toNat ≤ 0xFDFF) : regionOf a = .echo :=
  regionOf_eq (r := .echo) h1 (Nat.lt_succ_of_le h2)

theorem regionOf_oam (h1 : 0xFE00 ≤ a.toNat) (h2 : a.toNat ≤ 0xFE9F) : regionOf a = .oam :=
  regionOf_eq (r := .oam) h1 (Nat.lt_succ_of_le h2)

theorem regionOf_unusable (h1 : 0xFEA0 ≤ a.toNat) (h2 : a.toNat ≤ 0xFEFF) : regionOf a = .unusable :=
  regionOf_eq (r := .unusable) h1 (Nat.lt_succ_of_le h2)

theorem regionOf_io (h1 : 0xFF00 ≤ a.toNat) (h2 : a.toNat ≤ 0xFF7F) : regionOf a = .io :=
  regionOf_eq (r := .io) h1 (Nat.lt_succ_of_le h2)

theorem regionOf_hram (h1 : 0xFF80 ≤ a.toNat) (h2 : a.toNat ≤ 0xFFFE) : regionOf a = .hram :=
  regionOf_eq (r := .hram) h1 (Nat.lt_succ_of_le h2)

end

theorem State.vramBlocked_iff (s : State) : s.vramBlocked = true ↔
    s.params.accessBlocking = .hardware ∧ s.ppu.lcdc.getLsbD 7 = true ∧ s.ppu.mode = .dataTransfer := by
  simp only [State.vramBlocked, Ppu.lcdOn, bitOf, Bool.and_eq_true, decide_eq_true_eq, and_assoc]

theorem State.oamBlocked_iff (s : State) : s.oamBlocked = true ↔
    s.params.accessBlocking = .hardware ∧ s.ppu.lcdc.getLsbD 7 = true ∧ (s.ppu.mode = .oamSearch ∨ s.ppu.mode = .dataTransfer) := by
  simp only [State.oamBlocked, Ppu.lcdOn, bitOf, Bool.and_eq_true, Bool.or_eq_true, decide_eq_true_eq, and_assoc]

/-- An address of the echo reads as the work-RAM address 0x2000 below it (20_memory R103). -/
theorem State.busRead_echo_mirror (s : State) {a : Word} (h : regionOf a = .echo) : s.busRead a = s.busRead (a - 0x2000) := by
  have hbelow : storageOf a = a - 0x2000 := if_pos h
  have hnat : (a - 0x2000).toNat = a.toNat - 0x2000 := (congrArg BitVec.toNat hbelow).symm.trans (storageOf_of_echo h)
  obtain ⟨h1, h2⟩ := regionOf_range a
  simp only [h, Region.range] at h1 h2
  rw [State.busRead_echo h, State.busRead_wram (regionOf_wram (by omega) (by omega)), hnat]

/-- Settles O41: each clause is the rule of its range, with `blocked_vram()` and `blocked_oam()` written out. -/
theorem busReadsByTheMap : Obligations.BusReadsByTheMap := by
  unfold Obligations.BusReadsByTheMap
  intro s a
  refine ⟨fun h c hc => State.busRead_rom (regionOf_rom h) hc, fun h1 h2 => ?_,
    fun h1 h2 c hc => State.busRead_saveRam (regionOf_saveRam h1 h2) hc, fun h1 h2 => State.busRead_wram (regionOf_wram h1 h2),
    fun h1 h2 => ⟨State.busRead_echo (regionOf_echo h1 h2), s.busRead_echo_mirror (regionOf_echo h1 h2)⟩, fun h1 h2 => ?_,
    fun h1 h2 => State.busRead_unusable (regionOf_unusable h1 h2), fun h1 h2 => State.busRead_io (regionOf_io h1 h2),
    fun h1 h2 => State.busRead_hram (regionOf_hram h1 h2), fun h => by rw [h]; rfl⟩
  · rw [State.busRead_vram (regionOf_vram h1 h2)]
    exact if_congr s.vramBlocked_iff rfl rfl
  · rw [State.busRead_oam (regionOf_oam h1 h2)]
    exact if_congr s.oamBlocked_iff rfl rfl

/-! The I/O registers (20_memory R110, R112; 10_state R41 to R52). -/

/-- P1: two bits that read 1, the select bits and the AND of the selected groups (10_state R51). -/
theorem Joypad.readP1_eq (j : Joypad) : j.readP1 = 0xC0#8 ||| (j.jsel.setWidth 8 <<< 4) |||
    ((if j.jsel.getLsbD 0 then 0x0F else j.jdir.setWidth 8) &&& (if j.jsel.getLsbD 1 then 0x0F else j.jact.setWidth 8)) := by
  have hcat : ∀ (sel : BitVec 2) (lines : BitVec 4),
      (0b11 : BitVec 2) ++ sel ++ lines = (0xC0#8 ||| (sel.setWidth 8 <<< 4) ||| lines.setWidth 8) := by decide
  unfold Joypad.readP1
  rw [hcat, BitVec.setWidth_and, apply_ite (BitVec.setWidth 8), apply_ite (BitVec.setWidth 8)]
  rfl

/-- STAT: a bit that reads 1, the enables, the coincidence as it is now, and the mode's number (10_state R45). -/
theorem Ppu.readStat_eq (p : Ppu) : p.readStat =
    0x80#8 ||| (p.statEnables.setWidth 8 <<< 3) ||| (if p.ly = p.lyc then 0x04 else 0) ||| p.mode.bits.setWidth 8 := by
  have hcat : ∀ (enables : BitVec 4) (eq : Bool) (mode : BitVec 2), (0b1 : BitVec 1) ++ enables ++ BitVec.ofBool eq ++ mode =
      (0x80#8 ||| (enables.setWidth 8 <<< 3) ||| (if eq = true then 0x04 else 0) ||| mode.setWidth 8) := by decide
  unfold Ppu.readStat
  rw [hcat]
  simp only [decide_eq_true_eq]

/-- TAC's five unused bits read 1 (10_state R42). -/
theorem tacByte_eq : ∀ t : BitVec 3, (0b11111 : BitVec 5) ++ t = (0xF8#8 ||| t.setWidth 8) := by decide

/-- IF's three unused bits read 1 (10_state R41). -/
theorem ifByte_eq : ∀ i : BitVec 5, (0b111 : BitVec 3) ++ i = (0xE0#8 ||| i.setWidth 8) := by decide

/-- An address that is none of the device registers' names a byte of the internal file (20_memory R112). -/
theorem ioRegOf_file {a : Word} (h : a ∉ [0xFF00#16, 0xFF04#16, 0xFF05#16, 0xFF06#16, 0xFF07#16, 0xFF0F#16, 0xFF40#16, 0xFF41#16, 0xFF42#16,
    0xFF43#16, 0xFF44#16, 0xFF45#16, 0xFF46#16, 0xFF47#16, 0xFF48#16, 0xFF49#16, 0xFF4A#16, 0xFF4B#16]) : ioRegOf a = .file := by
  simp only [List.mem_cons, List.not_mem_nil, or_false, not_or] at h
  simp only [ioRegOf, BitVec.ofNat_eq_ofNat, h, if_false]

/-- Settles O42: a register's address selects it by computation; P1, TAC, IF and STAT put their bits together as their equations say. -/
theorem ioRegistersRead : Obligations.IoRegistersRead := by
  unfold Obligations.IoRegistersRead
  intro s
  refine ⟨s.joy.readP1_eq, rfl, rfl, rfl, tacByte_eq s.timer.tac, ifByte_eq s.iflag, rfl, ?_, rfl, rfl, rfl, rfl, rfl, rfl, rfl, rfl, rfl, rfl,
    fun a h1 h2 ha => ?_⟩
  · refine (Ppu.readStat_eq s.ppu).trans (congrArg _ ?_)
    cases s.ppu.mode <;> rfl
  · rw [State.busRead_io (regionOf_io h1 h2), State.ioRead, ioRegOf_file ha]

/-! Writes (20_memory R101, R110, R111). -/

/-- A write to the program range keeps the image, its length and the save RAM's size (20_memory R141). -/
theorem Cart.writeRom_keeps (c : Cart) (a : Nat) (v : Byte) :
    (c.writeRom a v).image = c.image ∧ (c.writeRom a v).imageLen = c.imageLen ∧ (c.writeRom a v).ramSize = c.ramSize := by
  unfold Cart.writeRom
  split <;> exact ⟨rfl, rfl, rfl⟩

/-- A write to the save-RAM window keeps the image, its length and the save RAM's size (20_memory R144). -/
theorem Cart.writeRam_keeps (c : Cart) (a : Nat) (v : Byte) :
    (c.writeRam a v).image = c.image ∧ (c.writeRam a v).imageLen = c.imageLen ∧ (c.writeRam a v).ramSize = c.ramSize := by
  unfold Cart.writeRam
  split <;> exact ⟨rfl, rfl, rfl⟩

/-- Settles O43: plain storage by `State.busWrite_stored`, the other ranges by their rule of the map. -/
theorem storesToPlainStorage : Obligations.StoresToPlainStorage := by
  unfold Obligations.StoresToPlainStorage
  intro s a v
  refine ⟨fun h => ⟨State.busWrite_plain_onlyMem h v, fun hm => State.busWrite_stored hm h v⟩,
    fun h1 h2 hb => State.busWrite_vram_blocked (regionOf_vram h1 h2) hb v,
    fun h1 h2 hb => State.busWrite_oam_blocked (regionOf_oam h1 h2) hb v,
    fun h1 h2 => State.busWrite_unusable (regionOf_unusable h1 h2) v, fun h => by rw [h]; rfl, fun h => ?_⟩
  rcases h with h | ⟨h1, h2⟩
  · rw [State.busWrite_rom (regionOf_rom h)]
    exact ⟨rfl, fun c hc => ⟨_, by rw [State.mapCart_of_some hc], c.writeRom_keeps a.toNat v⟩⟩
  · rw [State.busWrite_saveRam (regionOf_saveRam h1 h2)]
    exact ⟨rfl, fun c hc => ⟨_, by rw [State.mapCart_of_some hc], c.writeRam_keeps a.toNat v⟩⟩

/-- A write to LCDC that leaves bit 7 as it was stores the byte and nothing else (60_exceptions R458, R461). -/
theorem Ppu.writeLcdc_of_same {p : Ppu} {v : Byte} (h : v.getLsbD 7 = p.lcdc.getLsbD 7) : p.writeLcdc v = { p with lcdc := v } := by
  unfold Ppu.writeLcdc Ppu.lcdOn bitOf
  rw [h]
  simp only [Bool.and_not_self, Bool.not_and_self, Bool.false_eq_true, if_false]

/-- Settles O44: a register's address selects its arm of IoWrite by computation; for LCDC, `Ppu.writeLcdc_of_same`. -/
theorem ioWriteEffects : Obligations.IoWriteEffects := by
  unfold Obligations.IoWriteEffects
  intro s v
  refine ⟨rfl, rfl, rfl, rfl, rfl, rfl, rfl, rfl, rfl, rfl, rfl, rfl, rfl, rfl, rfl, rfl, fun h => ?_⟩
  have hw : s.busWrite 0xFF40 v = { s with ppu := s.ppu.writeLcdc v } := rfl
  rw [hw, Ppu.writeLcdc_of_same h]

/-! OAM DMA (20_memory R120). -/

/-- The copy changes the store alone. -/
theorem State.dmaCopy_onlyMem (base n k : Nat) (s : State) : OnlyMem s (State.dmaCopy base n k s) := by
  induction n generalizing k s with
  | zero => rfl
  | succ n ih => exact ih (k + 1) _

/-- The copy leaves every byte but the `n` it writes from OAM's byte `k` on. -/
theorem State.dmaCopy_read_other {x k n : Nat} (hx : x < 0xFE00 + k ∨ 0xFE00 + k + n ≤ x) (base : Nat) (s : State) :
    (State.dmaCopy base n k s).mem.read x = s.mem.read x := by
  induction n generalizing k s with
  | zero => rfl
  | succ n ih =>
    rw [State.dmaCopy, ih (by omega), State.poke_mem, Memory.read_write_other _ _ (by omega)]

/-- The page's byte `j` is not stored where the copy puts an earlier byte `k`: a page starts at a multiple of 256, and a copy has 160 bytes. -/
theorem storageOf_dmaSource_ne {page k j : Nat} (hp : page < 256) (hkj : k < j) (hj : j < 160) :
    (storageOf (BitVec.ofNat 16 (page * 256 + j))).toNat ≠ 0xFE00 + k := by
  have hnat : (BitVec.ofNat 16 (page * 256 + j)).toNat = page * 256 + j := by
    rw [BitVec.toNat_ofNat]
    omega
  obtain ⟨-, h⟩ := regionOf_range (BitVec.ofNat 16 (page * 256 + j))
  rw [storageOf_toNat]
  split
  · next hecho =>
    simp only [hecho, Region.range] at h
    omega
  · omega

/-- The copy puts at OAM's byte `k + i` the byte that the bus reads at the page's byte `k + i` before the copy: no byte that it has written
by then is that byte's storage. -/
theorem State.dmaCopy_read {s : State} (hm : s.mem.wf) {page n k i : Nat} (hp : page < 256) (hk : k + n ≤ 160) (hi : i < n) :
    (State.dmaCopy (page * 256) n k s).mem.read (0xFE00 + (k + i)) = s.busRead (BitVec.ofNat 16 (page * 256 + (k + i))) := by
  induction n generalizing k i s with
  | zero => omega
  | succ n ih =>
    rw [State.dmaCopy]
    cases i with
    | zero => exact (State.dmaCopy_read_other (.inl (by omega)) _ _).trans (Memory.read_write_same hm _ _)
    | succ i =>
      rw [show k + (i + 1) = k + 1 + i by omega, ih (State.poke_mem_wf hm _ _) (by omega) (by omega),
        State.busRead_poke _ _ _ _ (storageOf_dmaSource_ne hp (by omega) (by omega))]

/-- Settles O45: the write is the copy of 160 bytes from byte 0 on, after the register takes `v`. -/
theorem oamDmaCopies : Obligations.OamDmaCopies := by
  unfold Obligations.OamDmaCopies
  intro s v hm
  have hw : s.busWrite 0xFF46 v = State.dmaCopy (v.toNat * 256) 160 0 { s with ppu := { s.ppu with dma := v } } := rfl
  rw [hw]
  refine ⟨fun i hi => ?_, fun x hx => State.dmaCopy_read_other hx _ _, State.dmaCopy_onlyMem ..⟩
  have hcopied := State.dmaCopy_read (s := { s with ppu := { s.ppu with dma := v } }) hm (k := 0) v.isLt (Nat.le_refl _) hi
  rwa [Nat.zero_add] at hcopied

/-! The cartridges (20_memory R142 to R146). -/

/-- A long enough image with a supported banking code loads as that variant, holding its bytes (20_memory R146). -/
theorem Cart.ofImage_of_banking (params : Params) {image : List Byte} (hlen : 0x150 ≤ image.length) {b : Banking}
    (hb : bankingOf (image.getD 0x147 0) = some b) :
    ∃ c, Cart.ofImage params image = some c ∧ c.banking = b ∧ c.imageLen = image.length ∧
      ∀ i, c.image.read i = image.getD i 0 := by
  unfold Cart.ofImage
  rw [if_neg (Nat.not_lt.2 hlen), hb]
  refine ⟨_, rfl, rfl, rfl, fun i => ?_⟩
  have hread := Memory.read_ofBytes 0 image i
  rwa [Nat.zero_add] at hread

section
variable {c : Cart} (h : c.banking = .romOnly)
include h

theorem Cart.readRom_romOnly (a : Nat) : c.readRom a = c.image.read (a % c.imageLen) := by
  simp only [Cart.readRom, Cart.romOffset, h]

theorem Cart.writeRom_romOnly (a : Nat) (v : Byte) : c.writeRom a v = c := by
  simp only [Cart.writeRom, h]

theorem Cart.readRam_romOnly (a : Nat) : c.readRam a = 0xFF := by
  simp only [Cart.readRam, Cart.ramOffset, h]

theorem Cart.writeRam_romOnly (a : Nat) (v : Byte) : c.writeRam a v = c := by
  simp only [Cart.writeRam, Cart.ramOffset, h]

end

/-- Settles O46: the load by `Cart.ofImage_of_banking`, the accesses by the ROM-only cartridge's four rules. -/
theorem romOnlyCartridge : Obligations.RomOnlyCartridge := by
  unfold Obligations.RomOnlyCartridge
  refine ⟨fun params image hlen hcode => ?_, fun s c a v hc hb => ?_⟩
  · obtain ⟨c, hload, hbanking, himageLen, hread⟩ :=
      Cart.ofImage_of_banking params hlen (b := .romOnly) (by rw [hcode]; rfl)
    exact ⟨c, hload, hbanking, himageLen, fun i _ => hread i⟩
  have hrom : ∀ x : Word, x.toNat ≤ 0x7FFF → s.busRead x = c.image.read (x.toNat % c.imageLen) := fun x hx => by
    rw [State.busRead_rom (regionOf_rom hx) hc, Cart.readRom_romOnly hb]
  refine ⟨fun h => ⟨hrom a h, ?_⟩, fun h1 h2 => ⟨?_, ?_⟩, fun hlen h => ?_⟩
  · rw [State.busWrite_rom (regionOf_rom h)]
    exact State.mapCart_of_fixed hc (Cart.writeRom_romOnly hb _ _)
  · rw [State.busRead_saveRam (regionOf_saveRam h1 h2) hc, Cart.readRam_romOnly hb]
  · rw [State.busWrite_saveRam (regionOf_saveRam h1 h2)]
    exact State.mapCart_of_fixed hc (Cart.writeRam_romOnly hb _ _)
  · have hnat : (a + 0x4000).toNat = a.toNat + 0x4000 := by bv_omega
    rw [hrom (a + 0x4000) (by omega), hrom a (by omega), hnat, hlen, Nat.add_mod_right]

/-! MBC1's four registers, each by the bits it takes of the byte written (20_memory R143). -/

theorem Mbc1.select_ramEn (b : Mbc1) {a : Nat} (h : a ≤ 0x1FFF) (v : Byte) :
    b.select a v = { b with ramEn := decide (v.toNat % 16 = 0x0A) } := by
  have hbits : v &&& 0x0F = 0x0A ↔ v.toNat % 16 = 0x0A := by
    rw [← BitVec.toNat_inj, BitVec.toNat_and]
    exact iff_of_eq (congrArg (· = 0x0A) (Nat.and_two_pow_sub_one_eq_mod v.toNat 4))
  rw [Mbc1.select, if_pos (by omega), decide_eq_decide.2 hbits]

theorem Mbc1.select_bankLo (b : Mbc1) {a : Nat} (h1 : 0x2000 ≤ a) (h2 : a ≤ 0x3FFF) (v : Byte) :
    b.select a v = { b with bankLo := if v.toNat % 32 = 0 then 1 else BitVec.ofNat 5 (v.toNat % 32) } := by
  have hbits : v.setWidth 5 = BitVec.ofNat 5 (v.toNat % 32) := by bv_omega
  have hzero : v.setWidth 5 = (0 : BitVec 5) ↔ v.toNat % 32 = 0 := by
    rw [← BitVec.toNat_inj, BitVec.toNat_setWidth]
    exact Iff.rfl
  rw [Mbc1.select, if_neg (by omega), if_pos (by omega), if_congr hzero rfl hbits]

theorem Mbc1.select_bankHi (b : Mbc1) {a : Nat} (h1 : 0x4000 ≤ a) (h2 : a ≤ 0x5FFF) (v : Byte) :
    b.select a v = { b with bankHi := BitVec.ofNat 2 (v.toNat % 4) } := by
  have hbits : v.setWidth 2 = BitVec.ofNat 2 (v.toNat % 4) := by bv_omega
  rw [Mbc1.select, if_neg (by omega), if_neg (by omega), if_pos (by omega), hbits]

theorem Mbc1.select_bmode (b : Mbc1) {a : Nat} (h : 0x6000 ≤ a) (v : Byte) :
    b.select a v = { b with bmode := decide (v.toNat % 2 = 1) } := by
  have hbit : v.getLsbD 0 = decide (v.toNat % 2 = 1) := Nat.testBit_zero v.toNat
  rw [Mbc1.select, if_neg (by omega), if_neg (by omega), if_neg (by omega), hbit]

section
variable {c : Cart} {b : Mbc1} (h : c.banking = .mbc1 b)
include h

theorem Cart.writeRom_mbc1 (a : Nat) (v : Byte) : c.writeRom a v = { c with banking := .mbc1 (b.select a v) } := by
  simp only [Cart.writeRom, h]

theorem Cart.readRom_mbc1_low {a : Nat} (ha : a ≤ 0x3FFF) :
    c.readRom a = c.image.read (((if b.bmode then 32 * b.bankHi.toNat else 0) * 0x4000 + a) % c.imageLen) := by
  have hlow : a < 0x4000 := Nat.lt_succ_of_le ha
  have hoffset : c.romOffset a = (b.lowBank * 0x4000 + a) % c.imageLen := by simp only [Cart.romOffset, h, hlow, if_true]
  rw [Cart.readRom, hoffset, Mbc1.lowBank, Nat.mul_comm 32]

theorem Cart.readRom_mbc1_high {a : Nat} (ha : 0x4000 ≤ a) :
    c.readRom a = c.image.read (((32 * b.bankHi.toNat + b.bankLo.toNat) * 0x4000 + (a - 0x4000)) % c.imageLen) := by
  have hhigh : ¬ a < 0x4000 := Nat.not_lt.2 ha
  have hoffset : c.romOffset a = (b.highBank * 0x4000 + (a - 0x4000)) % c.imageLen := by
    simp only [Cart.romOffset, h, hhigh, if_false]
  rw [Cart.readRom, hoffset, Mbc1.highBank, Nat.mul_comm 32]

/-- The save-RAM window reaches RAM where it is enabled and there is any, in the bank that bmode and bank_hi select. -/
theorem Cart.ramOffset_mbc1 (a : Nat) : c.ramOffset a = if b.ramEn = true ∧ 0 < c.ramSize then
    some (((if b.bmode then b.bankHi.toNat else 0) * 0x2000 + (a - 0xA000)) % c.ramSize) else none := by
  simp only [Cart.ramOffset, h, Bool.and_eq_true, decide_eq_true_eq]

theorem Cart.readRam_mbc1 (a : Nat) : c.readRam a = if b.ramEn = true ∧ 0 < c.ramSize then
    c.ram.read (((if b.bmode then b.bankHi.toNat else 0) * 0x2000 + (a - 0xA000)) % c.ramSize) else 0xFF := by
  rw [Cart.readRam, Cart.ramOffset_mbc1 h]
  by_cases hr : b.ramEn = true ∧ 0 < c.ramSize
  · simp only [if_pos hr]
  · simp only [if_neg hr]

theorem Cart.writeRam_mbc1 (a : Nat) (v : Byte) : c.writeRam a v = if b.ramEn = true ∧ 0 < c.ramSize then
    { c with ram := c.ram.write (((if b.bmode then b.bankHi.toNat else 0) * 0x2000 + (a - 0xA000)) % c.ramSize) v } else c := by
  rw [Cart.writeRam, Cart.ramOffset_mbc1 h]
  by_cases hr : b.ramEn = true ∧ 0 < c.ramSize
  · simp only [if_pos hr]
  · simp only [if_neg hr]

end

/-- The three header codes of MBC1 select it with its registers at their reset values (20_memory R143, R146). -/
theorem bankingOf_mbc1 {code : Byte} (h : code ∈ [0x01#8, 0x02#8, 0x03#8]) : bankingOf code = some (.mbc1 Mbc1.reset) := by
  simp only [List.mem_cons, List.not_mem_nil, or_false] at h
  rcases h with rfl | rfl | rfl <;> rfl

/-- Settles O47: a register write is `Mbc1.select` on the loaded cartridge, and a window reads or writes at the offset its bank gives. -/
theorem mbc1Cartridge : Obligations.Mbc1Cartridge := by
  unfold Obligations.Mbc1Cartridge
  refine ⟨fun s c b a v hc hb => ?_, fun params image hlen hcode => ?_⟩
  · have hselect : a.toNat ≤ 0x7FFF →
        s.busWrite a v = { s with cart := some { c with banking := .mbc1 (b.select a.toNat v) } } := fun h => by
      rw [State.busWrite_rom (regionOf_rom h), State.mapCart_of_some hc, Cart.writeRom_mbc1 hb]
    refine ⟨fun h => ?_, fun h1 h2 => ?_, fun h1 h2 => ?_, fun h1 h2 => ?_, fun h1 h2 => ?_, fun h => ?_, fun h1 h2 => ?_,
      fun h1 h2 => ?_, ?_⟩
    · rw [hselect (by omega), Mbc1.select_ramEn b h]
    · rw [hselect (by omega), Mbc1.select_bankLo b h1 h2]
    · rw [hselect (by omega), Mbc1.select_bankHi b h1 h2]
    · rw [hselect h2, Mbc1.select_bmode b h1]
    · rw [State.busWrite_saveRam (regionOf_saveRam h1 h2)]
      have hwrite := Cart.writeRam_mbc1 hb a.toNat v
      split
      · next hr => rw [State.mapCart_of_some hc, State.mapCart_of_some hc, hwrite, if_pos hr]
      · next hr => exact State.mapCart_of_fixed hc (hwrite.trans (if_neg hr))
    · rw [State.busRead_rom (regionOf_rom (by omega)) hc, Cart.readRom_mbc1_low hb h]
    · rw [State.busRead_rom (regionOf_rom h2) hc, Cart.readRom_mbc1_high hb h1]
    · rw [State.busRead_saveRam (regionOf_saveRam h1 h2) hc, Cart.readRam_mbc1 hb]
    · rw [Cart.resetBanks, hb]
      rfl
  · obtain ⟨c, hload, hbanking, -, -⟩ := Cart.ofImage_of_banking params hlen (bankingOf_mbc1 hcode)
    exact ⟨c, hload, hbanking⟩

end Sys2Proof.Machine

/-! Encoding and decoding (30_encoding R150 to R177): the displacement byte, what each cell of the opcode maps encodes to, and from these the
round trips between bytes and instructions; then the bytes with no handler, and the conditional jumps. -/

namespace Sys2Proof.Machine

/-! The displacement byte (30_encoding R156). -/

theorem dispOk_iff (e : Int) : dispOk e = true ↔ -128 ≤ e ∧ e ≤ 127 := by
  simp only [dispOk, Bool.and_eq_true, decide_eq_true_eq]

theorem dispByte_sext8 (n : Byte) : dispByte (sext8 n) = n := BitVec.ofInt_toInt

theorem sext8_dispByte {e : Int} (h : dispOk e = true) : sext8 (dispByte e) = e := by
  obtain ⟨lower, upper⟩ := (dispOk_iff e).mp h
  unfold sext8 dispByte
  rw [BitVec.toInt_ofInt]
  exact Int.bmod_eq_of_le (by omega) (by omega)

theorem dispOk_sext8 (n : Byte) : dispOk (sext8 n) = true :=
  (dispOk_iff _).mpr ⟨BitVec.le_toInt n, Int.lt_add_one_iff.mp (BitVec.toInt_lt (x := n))⟩

/-! The cells of the opcode maps (30_encoding R170, R171). -/

/-- A claim about every opcode byte is one about every row and column of a map. -/
theorem byRowAndColumn {P : Byte → Prop} (cell : ∀ r c : Fin 16, P (BitVec.ofNat 8 (16 * r.val + c.val))) (op : Byte) : P op := by
  have hop := cell ⟨op.toNat / 16, by omega⟩ ⟨op.toNat % 16, by omega⟩
  rwa [Nat.div_add_mod, BitVec.ofNat_toNat, BitVec.setWidth_eq] at hop

/-- The base opcodes whose immediate byte is a displacement (30_encoding R156). -/
def displacementOpcodes : List Byte := [0x18, 0x20, 0x28, 0x30, 0x38, 0xE8, 0xF8]

/-- The bytes of the base map's cell at `op` with the operands `n` and `nn`, by the format of `op` (30_encoding R150). The cell of 0xCB
holds the instruction of the byte pair CB CB (R177). -/
def baseCellBytes (op n : Byte) (nn : Word) : List Byte :=
  if op ∈ threeByteOpcodes then [op, loByte nn, hiByte nn]
  else if op ∈ displacementOpcodes then [op, dispByte (sext8 n)]
  else if op = 0xCB then [0xCB, 0xCB]
  else if op ∈ twoByteOpcodes then [op, n]
  else [op]

theorem encode_baseCell (op n : Byte) (nn : Word) : encode (mapCell (baseMap n nn) op) = baseCellBytes op n nn := by
  induction op using byRowAndColumn with
  | cell r c => fin_cases r <;> fin_cases c <;> rfl

theorem wellFormed_baseCell (op n : Byte) (nn : Word) :
    (mapCell (baseMap n nn) op).wellFormed = if op ∈ displacementOpcodes then dispOk (sext8 n) else true := by
  induction op using byRowAndColumn with
  | cell r c => fin_cases r <;> fin_cases c <;> rfl

theorem wellFormed_encode_cbCell : ∀ n : Byte, (mapCell cbMap n).wellFormed = true ∧ encode (mapCell cbMap n) = [0xCB, n] := by decide

theorem decodeBytes_cb (n n2 : Byte) : decodeBytes 0xCB n n2 = mapCell cbMap n := if_pos rfl

theorem decodeBytes_base {op : Byte} (h : op ≠ 0xCB) (n n2 : Byte) : decodeBytes op n n2 = mapCell (baseMap n (mkWord n2 n)) op := if_neg h

/-- With the operands read from the bytes after the opcode, a cell's bytes are the bytes read (30_encoding R150, R161). -/
theorem baseCellBytes_mkWord {op : Byte} (h : op ≠ 0xCB) (n n2 : Byte) :
    baseCellBytes op n (mkWord n2 n) = [op, n, n2].take (opcodeLength op) := by
  have disp_two : ∀ b ∈ displacementOpcodes, b ∈ twoByteOpcodes := by decide
  unfold baseCellBytes opcodeLength
  rw [loByte_mkWord, hiByte_mkWord, dispByte_sext8, if_neg h]
  by_cases h3 : op ∈ threeByteOpcodes
  · simp [h3]
  · by_cases hd : op ∈ displacementOpcodes
    · simp [h3, hd, disp_two op hd]
    · by_cases h2 : op ∈ twoByteOpcodes <;> simp [h3, hd, h2]

/-- Settles O3: the CB page is a finite table, and a base cell's bytes are those it was read from. -/
theorem everyByteTripleIsOneInstruction : Obligations.EveryByteTripleIsOneInstruction := by
  unfold Obligations.EveryByteTripleIsOneInstruction
  intro op b1 b2
  by_cases h : op = 0xCB
  · subst h
    rw [decodeBytes_cb]
    exact wellFormed_encode_cbCell b1
  · rw [decodeBytes_base h, wellFormed_baseCell, dispOk_sext8, ite_self, encode_baseCell, baseCellBytes_mkWord h]
    exact ⟨rfl, rfl⟩

/-! The round trip (30_encoding R150, R161, R170, R171). -/

/-- The decoder reads every well-formed instruction from its own bytes: a displacement and a word are rebuilt from theirs, and every other
instruction's bytes name it as they stand. -/
theorem exists_decodeBytes_encode (i : Instr) (h : i.wellFormed = true) :
    ∃ op tl, encode i = op :: tl ∧ decodeBytes op (tl.getD 0 0) (tl.getD 1 0) = i := by
  cases i
  case jr_e | jr_NZ_e | jr_Z_e | jr_NC_e | jr_C_e | add_SP_e | ld_HL_SPplusE =>
    refine ⟨_, _, rfl, ?_⟩
    conv_rhs => rw [← sext8_dispByte h]
    rfl
  case ld_BC_nn nn | ld_DE_nn nn | ld_HL_nn nn | ld_SP_nn nn | ld_atNn_SP nn | ld_A_atNn nn | ld_atNn_A nn | jp_nn nn | jp_NZ_nn nn
      | jp_Z_nn nn | jp_NC_nn nn | jp_C_nn nn | call_nn nn | call_NZ_nn nn | call_Z_nn nn | call_NC_nn nn | call_C_nn nn =>
    refine ⟨_, _, rfl, ?_⟩
    conv_rhs => rw [← mkWord_bytes nn]
    rfl
  all_goals exact ⟨_, _, rfl, rfl⟩

/-- No two well-formed instructions have the same bytes. -/
theorem encode_injective {i j : Instr} (hi : i.wellFormed = true) (hj : j.wellFormed = true) (h : encode i = encode j) : i = j := by
  obtain ⟨op, tl, ei, rfl⟩ := exists_decodeBytes_encode i hi
  obtain ⟨op', tl', ej, rfl⟩ := exists_decodeBytes_encode j hj
  obtain ⟨rfl, rfl⟩ := List.cons.inj (ei.symm.trans (h.trans ej))
  rfl

theorem opcodeLength_cases (op : Byte) : opcodeLength op = 1 ∨ opcodeLength op = 2 ∨ opcodeLength op = 3 := by
  unfold opcodeLength
  split_ifs <;> simp

/-- Decoding consumes the bytes that the first one tells of, and reads an instruction whose first bytes they are (30_encoding R150, R161):
the bytes read past them may differ. -/
theorem decode_take (op n n2 : Byte) (rest : List Byte) :
    ∃ m m2, [op, m, m2].take (opcodeLength op) = [op, n, n2].take (opcodeLength op) ∧
      decode ([op, n, n2].take (opcodeLength op) ++ rest) = .ok (decodeBytes op m m2, rest) := by
  rcases opcodeLength_cases op with hl | hl | hl
  · exact ⟨rest.getD 0 0, rest.getD 1 0, by simp [hl], by simp [decode, hl]⟩
  · exact ⟨n, rest.getD 0 0, by simp [hl], by simp [decode, hl]⟩
  · exact ⟨n, n2, rfl, by simp [decode, hl]⟩

/-- Settles O2: a well-formed instruction is read from some three bytes, and is encoded as the first of them (O3); whatever stands after
these, the decoder reads an instruction with the same encoding, so the same one (`encode_injective`). -/
theorem decodeEncodeRoundTrip : Obligations.DecodeEncodeRoundTrip := by
  unfold Obligations.DecodeEncodeRoundTrip
  intro i rest hi
  obtain ⟨op, tl, -, rfl⟩ := exists_decodeBytes_encode i hi
  obtain ⟨-, he⟩ := everyByteTripleIsOneInstruction op (tl.getD 0 0) (tl.getD 1 0)
  obtain ⟨m, m2, same, hd⟩ := decode_take op (tl.getD 0 0) (tl.getD 1 0) rest
  obtain ⟨hm, em⟩ := everyByteTripleIsOneInstruction op m m2
  rw [he, hd, encode_injective hm hi (em.trans (same.trans he.symm))]

/-! The instruction words of the spec (40_load to 45_misc). -/

theorem decode_of_encode_eq {i : Instr} {bs : List Byte} (h : i.wellFormed = true) (hbs : encode i = bs) : decode bs = .ok (i, []) := by
  subst hbs
  simpa using decodeEncodeRoundTrip i [] h

/-- Settles O1: each word is the encoding of its instruction, with nothing after it, so the round trip decodes it. -/
theorem wordsOfTheSpecDecode : Obligations.WordsOfTheSpecDecode := by
  unfold Obligations.WordsOfTheSpecDecode
  and_intros <;> exact decode_of_encode_eq (by decide) (by decide)

/-! The bytes with no handler (30_encoding R175, 45_misc R369). -/

/-- The 11 opcode bytes with no handler (30_encoding R175). -/
def illegalOpcodes : List Byte := [0xD3, 0xDB, 0xDD, 0xE3, 0xE4, 0xEB, 0xEC, 0xED, 0xF4, 0xFC, 0xFD]

theorem Instr.of_illegalByte {i : Instr} {b : Byte} (h : i.illegalByte = some b) : b ∈ illegalOpcodes ∧ encode i = [b] := by
  unfold Instr.illegalByte at h
  split at h <;> cases h <;> decide

theorem illegalByte_decodeBytes {b : Byte} (h : b ∈ illegalOpcodes) (n n2 : Byte) : (decodeBytes b n n2).illegalByte = some b := by
  unfold illegalOpcodes at h
  fin_cases h <;> rfl

/-- The illegal instructions are encoded as one byte, those of the CB page as two. -/
theorem illegalByte_cb (n n2 : Byte) : (decodeBytes 0xCB n n2).illegalByte = none := by
  rw [decodeBytes_cb, Option.eq_none_iff_forall_ne_some]
  intro b h
  have one := (Instr.of_illegalByte h).2
  rw [(wellFormed_encode_cbCell n).2] at one
  simp at one

/-- Settles O37: the illegal instructions are those of the listed bytes (`Instr.of_illegalByte`, `illegalByte_decodeBytes`), and exec
answers the fault for each (`exec_illegal`). -/
theorem stopAndIllegalBytesFault : Obligations.StopAndIllegalBytesFault := by
  unfold Obligations.StopAndIllegalBytesFault
  refine ⟨fun n s => ⟨exec_stop s n, rfl⟩, fun i b s h => ?_, fun b => ⟨?_, fun h => ?_⟩, ?_, illegalByte_cb⟩
  · exact ⟨exec_illegal s h, (Instr.of_illegalByte h).2⟩
  · rintro ⟨i, h⟩
    exact (Instr.of_illegalByte h).1
  · exact ⟨decodeBytes b 0 0, illegalByte_decodeBytes h 0 0⟩
  · rintro b ⟨i, h⟩
    exact illegalByte_decodeBytes (Instr.of_illegalByte h).1

/-! Conditional jumps (41_control R251, R254). -/

theorem OnlyRegs.setPc (s : State) (pc : Word) (n : Nat) : OnlyRegs [] s { s with regs := { s.regs with pc := pc }, cycles := n } :=
  OnlyRegs.withRegs s _ n (fun r _ => by cases r <;> rfl) rfl rfl

/-- A jump to `pc` for 4 T-cycles more where `cc` holds, by an instruction of `len` bytes (41_control R251, R254). -/
theorem jumpIf_effect (s : State) (cc : Cond) (len cost : Nat) (pc : Word) {t : State}
    (ht : t = if (s.pass len cost).cond cc then ((s.pass len cost).setPc pc).addCycles 4 else s.pass len cost) :
    (s.cond cc = true → Jumped pc (cost + 4) s t) ∧ (s.cond cc = false → Passed len cost s t) ∧ OnlyRegs [] s t := by
  rw [State.pass_cond] at ht
  cases hc : s.cond cc <;> simp only [hc] at ht <;> subst ht
  · exact ⟨nofun, fun _ => ⟨rfl, rfl⟩, OnlyRegs.setPc s _ _⟩
  · exact ⟨fun _ => ⟨rfl, rfl⟩, nofun, OnlyRegs.setPc s _ _⟩

/-- Settles O24: both jumps are `jumpIf_effect`, JP to its operand and JR to its displacement from the instruction after it. -/
theorem conditionalJumps : Obligations.ConditionalJumps := by
  unfold Obligations.ConditionalJumps
  refine ⟨fun s => ?_, fun cc nn s => ⟨_, exec_jumpCond s cc nn, by cases cc <;> rfl, jumpIf_effect s cc 3 12 nn rfl⟩,
    fun cc e s => ⟨_, exec_jumpRelCond s cc e, by cases cc <;> rfl, jumpIf_effect s cc 2 8 _ rfl⟩⟩
  simp [State.cond]

end Sys2Proof.Machine

/-! The loads (40_load R200 to R226): what an update of a register, a pair, a stored byte or the stack does after an instruction's pass, and
from these the families' statements. -/

namespace Sys2Proof.Machine

/-! The register file: one register, or one pair. -/

theorem State.setReg_setReg_reg_of_notMem (s : State) {x y r : Reg8} (h : r ∉ [x, y]) (v w : Byte) :
    ((s.setReg x v).setReg y w).reg r = s.reg r := by
  rw [State.setReg_reg, State.setReg_reg, if_neg fun e => h (by simp [e]), if_neg (List.ne_of_not_mem_cons h)]

/-- A pair writes its two halves and no other 8-bit register, SP none at all (10_state R31). -/
theorem State.setPair_reg_of_notMem (s : State) {p : Reg16} {r : Reg8} (h : r ∉ pairHalves p) (v : Word) :
    (s.setPair p v).reg r = s.reg r := by
  cases p with
  | bc | de | hl => exact s.setReg_setReg_reg_of_notMem h (hiByte v) (loByte v)
  | sp => exact State.setSp_reg s v r

/-- An instruction that writes one 8-bit register. -/
theorem loadReg_effect (s : State) (len cost : Nat) (dst : Reg8) (v : Byte) {t : State} (ht : t = (s.pass len cost).setReg dst v) :
    Passed len cost s t ∧ t.reg dst = v ∧ OnlyRegs [dst] s t := by
  subst ht
  have hothers : ∀ r, r ∉ [dst] → ((s.pass len cost).setReg dst v).reg r = s.reg r := fun r hr => by
    rw [State.setReg_reg, if_neg (List.ne_of_not_mem_cons hr), State.pass_reg]
  exact ⟨⟨Regs.set_pc .., rfl⟩, by simp, OnlyRegs.withRegs s _ _ hothers (Regs.set_sp ..) (Regs.set_f ..)⟩

/-- An instruction that writes one pair, or SP, and no flag. -/
theorem loadPair_effect (s : State) (len cost : Nat) (p : Reg16) (v : Word) {t : State} (ht : t = (s.pass len cost).setPair p v) :
    Passed len cost s t ∧ t.pair p = v ∧ OnlyPair p s t := by
  subst ht
  refine ⟨⟨Regs.setPair_pc .., rfl⟩, by simp, OnlyPairF.withRegs s _ _ (fun r hr => ?_) (fun hp => ?_), Regs.setPair_f ..⟩
  · exact (State.setPair_reg_of_notMem _ hr v).trans (State.pass_reg ..)
  · exact (Regs.setPair_sp ..).trans (if_neg hp)

/-- An instruction that writes one pair, or SP, and the flags. -/
theorem loadPairFlags_effect (s : State) (len cost : Nat) (p : Reg16) (v : Word) (z n h c : Bool) {t : State}
    (ht : t = ((s.pass len cost).setPair p v).setFlags z n h c) :
    Passed len cost s t ∧ t.pair p = v ∧ FlagsAre t z n h c ∧ OnlyPairF p s t := by
  subst ht
  obtain ⟨hpass, hvalue, ⟨hregs, hsp, -⟩, -⟩ := loadPair_effect s len cost p v rfl
  exact ⟨hpass, (State.setFlags_pair ..).trans hvalue, FlagsAre.setFlags ..,
    fun r hr => (State.setFlags_reg ..).trans (hregs r hr), hsp, SameOutside.withRegs s _ _⟩

/-- Settles O15: each form is `loadReg_effect`, with the source register's value or the immediate byte. -/
theorem registerLoads : Obligations.RegisterLoads := by
  unfold Obligations.RegisterLoads
  refine ⟨fun dst r s => ⟨_, exec_ldRegReg s dst r, by cases dst <;> cases r <;> rfl, ?_⟩,
    fun dst n s => ⟨_, exec_ldRegImm s dst n, by cases dst <;> rfl, loadReg_effect s 2 8 dst n rfl⟩⟩
  exact loadReg_effect s 1 4 dst (s.reg r) (by rw [ldRegReg, State.pass_reg])

/-- Settles O18: LD rr,nn and LD SP,HL are `loadPair_effect`; a pair's halves are the two bytes of the word written to it. -/
theorem pairLoads : Obligations.PairLoads := by
  unfold Obligations.PairLoads
  refine ⟨fun p nn s => ⟨_, exec_ldPairImm s p nn, by cases p <;> rfl, ?_⟩,
    fun s => ⟨_, exec_ldSPHL s, rfl, loadPair_effect s 1 8 .sp s.hl rfl⟩⟩
  obtain ⟨hpass, hvalue, hframe⟩ := loadPair_effect s 3 12 p nn rfl
  refine ⟨hpass, hvalue, hframe, ?_, ?_, ?_⟩ <;>
  · rintro rfl
    exact ⟨rfl, rfl⟩

/-- Settles O19: both write their sum to a pair and the flags, `loadPairFlags_effect`. -/
theorem stackPointerPlusDisplacement : Obligations.StackPointerPlusDisplacement := by
  unfold Obligations.StackPointerPlusDisplacement
  exact ⟨fun e s => ⟨_, exec_ldHLSPPlus s e, rfl, loadPairFlags_effect s 2 12 .hl (s.spPlus e) _ _ _ _ rfl⟩,
    fun e s => ⟨_, exec_addSP s e, rfl, loadPairFlags_effect s 2 16 .sp (s.spPlus e) _ _ _ _ rfl⟩⟩

/-! Reads and writes of memory, and HL stepped after them. -/

/-- The address of a high-page form, as a sum (30_encoding R156). -/
theorem highPage_eq (n : Byte) : highPage n = 0xFF00 + n.setWidth 16 := by
  have hlow : (n.setWidth 16).toNat = n.toNat := BitVec.toNat_setWidth_of_le (by decide)
  apply BitVec.eq_of_toNat_eq
  rw [BitVec.toNat_add, hlow, highPage, mkWord, BitVec.toNat_append, ← Nat.shiftLeft_add_eq_or_of_lt n.isLt]
  change 0xFF00 + n.toNat = (0xFF00 + n.toNat) % 0x10000
  omega

section
variable {s t : State} {rs : List Reg8}

/-- A register that is neither listed nor a half of HL keeps its value when HL is written too. -/
theorem SameRegs.setHL (h : SameRegs rs s t) (w : Word) : SameRegs (rs ++ [.h, .l]) s (t.setPair .hl w) := fun r hr => by
  rw [List.mem_append, not_or] at hr
  exact (t.setPair_reg_of_notMem (p := .hl) hr.2 w).trans (h r hr.1)

theorem OnlyRegs.setHL (h : OnlyRegs rs s t) (w : Word) : OnlyRegs (rs ++ [.h, .l]) s (t.setPair .hl w) := by
  obtain ⟨⟨hregs, hsp, hcontrol, hdevices, hmemory⟩, hf⟩ := h
  exact ⟨⟨hregs.setHL w, hsp, hcontrol, hdevices, fun a => (State.busRead_setPair ..).trans (hmemory a)⟩, hf⟩

theorem OnlyStore.setHL {a : Word} {v : Byte} (h : OnlyStore rs a v s t) (w : Word) :
    OnlyStore (rs ++ [.h, .l]) a v s (t.setPair .hl w) := by
  obtain ⟨⟨hregs, hsp, hcontrol, hdevices, hstored⟩, hf⟩ := h
  exact ⟨⟨hregs.setHL w, hsp, hcontrol, hdevices,
    fun hm hplain x => (State.busRead_setPair ..).trans (hstored hm hplain x)⟩, hf⟩

end

/-- A read at HL into A with HL written after it (40_load R217, R219). -/
theorem loadStepHL_effect (s : State) (w : Word) {t : State} (ht : t = ((s.pass 1 8).setReg .a (s.busRead s.hl)).setPair .hl w) :
    Passed 1 8 s t ∧ t.reg .a = s.busRead s.hl ∧ t.hl = w ∧ OnlyRegs [.a, .h, .l] s t := by
  subst ht
  obtain ⟨hpass, hvalue, hframe⟩ := loadReg_effect s 1 8 .a (s.busRead s.hl) rfl
  exact ⟨hpass, hvalue, State.setPair_pair_same .., hframe.setHL w⟩

/-- Settles O16: each load is `loadReg_effect` with the byte the bus reads at its address; the two that step HL are `loadStepHL_effect`. -/
theorem memoryLoads : Obligations.MemoryLoads := by
  unfold Obligations.MemoryLoads
  refine ⟨fun dst s => ⟨_, exec_ldRegAtHL s dst, by cases dst <;> rfl, loadReg_effect s 1 8 dst _ ?_⟩,
    fun s => ⟨_, exec_ldAAtBC s, rfl, loadReg_effect s 1 8 .a _ ?_⟩,
    fun s => ⟨_, exec_ldAAtDE s, rfl, loadReg_effect s 1 8 .a _ ?_⟩,
    fun nn s => ⟨_, exec_ldAAbs s nn, rfl, loadReg_effect s 3 16 .a _ ?_⟩,
    fun n s => ⟨_, exec_ldhA s n, rfl, loadReg_effect s 2 12 .a _ ?_⟩,
    fun s => ⟨_, exec_ldAHighC s, rfl, loadReg_effect s 1 8 .a _ ?_⟩,
    fun s => ⟨_, exec_ldAAtHLInc s, rfl, loadStepHL_effect s _ ?_⟩,
    fun s => ⟨_, exec_ldAAtHLDec s, rfl, loadStepHL_effect s _ ?_⟩⟩
  · rw [ldRegAtHL, State.busRead_pass, State.pass_hl]
  · rw [ldAAt, State.busRead_pass, State.pass_pair]
  · rw [ldAAt, State.busRead_pass, State.pass_pair]
  · rw [ldAAbs, State.busRead_pass]
  · rw [ldhA, State.busRead_pass, highPage_eq]
  · rw [ldAHighC, State.busRead_pass, highPage_eq, State.pass_reg]
  · rw [ldAAtHLInc, State.busRead_pass]
    rfl
  · rw [ldAAtHLDec, State.busRead_pass]
    rfl

/-- An instruction that stores one byte. -/
theorem store_effect (s : State) (len cost : Nat) (a : Word) (v : Byte) {t : State} (ht : t = (s.pass len cost).busWrite a v) :
    Passed len cost s t ∧ OnlyStore [] a v s t := by
  subst ht
  have hdevices : SameDevices (s.busWrite a v) ((s.pass len cost).busWrite a v) := (SameDevices.pass s len cost).busWrite rfl a v
  refine ⟨?_, OnlyStoreF.of_devices hdevices ?_ (fun r _ => ?_) ?_ ?_, ?_⟩ <;> simp [Passed, SameSp, SameControl, SameF]

/-- An instruction that stores a word, low byte first (00_scope R10). -/
theorem storeWord_effect (s : State) (len cost : Nat) (a w : Word) {t : State} (ht : t = (s.pass len cost).busWrite16 a w) :
    Passed len cost s t ∧ StoredTwo a (loByte w) (a + 1) (hiByte w) s t ∧ SameRegs [] s t ∧ SameF s t ∧ SameSp s t ∧
      SameControl s t := by
  subst ht
  have hdevices : SameDevices ((s.busWrite a (loByte w)).busWrite (a + 1) (hiByte w)) ((s.pass len cost).busWrite16 a w) :=
    ((SameDevices.pass s len cost).busWrite rfl _ _).busWrite (by simp) _ _
  refine ⟨?_, StoredTwo.of_devices hdevices ?_, fun r _ => ?_, ?_⟩ <;> simp [State.busWrite16, Passed, SameF, SameSp, SameControl]

/-- A store of A at HL with HL written after it (40_load R216, R218). -/
theorem storeStepHL_effect (s : State) (w : Word) {t : State} (ht : t = ((s.pass 1 8).busWrite s.hl (s.reg .a)).setPair .hl w) :
    Passed 1 8 s t ∧ t.hl = w ∧ OnlyStore [.h, .l] s.hl (s.reg .a) s t := by
  subst ht
  obtain ⟨hpass, hframe⟩ := store_effect s 1 8 s.hl (s.reg .a) rfl
  exact ⟨hpass, State.setPair_pair_same .., hframe.setHL w⟩

/-- Settles O17: each store is `store_effect` at its address, the two that step HL are `storeStepHL_effect`, and LD (nn),SP is
`storeWord_effect`. -/
theorem memoryStores : Obligations.MemoryStores := by
  unfold Obligations.MemoryStores
  refine ⟨fun r s => ⟨_, exec_ldAtHLReg s r, by cases r <;> rfl, store_effect s 1 8 _ _ ?_⟩,
    fun n s => ⟨_, exec_ldAtHLImm s n, rfl, store_effect s 2 12 _ _ rfl⟩,
    fun s => ⟨_, exec_ldAtBCA s, rfl, store_effect s 1 8 _ _ rfl⟩,
    fun s => ⟨_, exec_ldAtDEA s, rfl, store_effect s 1 8 _ _ rfl⟩,
    fun nn s => ⟨_, exec_ldAbsA s nn, rfl, store_effect s 3 16 _ _ rfl⟩,
    fun n s => ⟨_, exec_ldhStoreA s n, rfl, store_effect s 2 12 _ _ ?_⟩,
    fun s => ⟨_, exec_ldHighCA s, rfl, store_effect s 1 8 _ _ ?_⟩,
    fun s => ⟨_, exec_ldAtHLIncA s, rfl, storeStepHL_effect s _ ?_⟩,
    fun s => ⟨_, exec_ldAtHLDecA s, rfl, storeStepHL_effect s _ ?_⟩,
    fun nn s => ⟨_, exec_ldAbsSP s nn, rfl, storeWord_effect s 3 20 nn s.regs.sp rfl⟩⟩
  · rw [ldAtHLReg, State.pass_reg, State.pass_hl]
  · rw [ldhStoreA, highPage_eq, State.pass_reg]
  · rw [ldHighCA, highPage_eq, State.pass_reg, State.pass_reg]
  · rw [ldAtHLIncA, State.incHL, State.busWrite_hl]
    rfl
  · rw [ldAtHLDecA, State.decHL, State.busWrite_hl]
    rfl

/-! The stack (40_load R200, R224 to R226). -/

/-- A push after an instruction's pass. -/
theorem OnlyPush.pass_push16 (s : State) (len cost : Nat) (v : Word) : OnlyPush v s ((s.pass len cost).push16 v) := by
  have hregs := State.push16_regs (s.pass len cost) v
  have hdevices : SameDevices (s.push16 v) ((s.pass len cost).push16 v) := (SameDevices.pass s len cost).push16 rfl rfl v
  refine OnlyPush.of_devices hdevices ?_ ?_ (fun r _ => ?_) ?_ ?_
  · simp
  · rw [hregs]
    rfl
  · cases r <;> simp [State.reg, hregs]
  · simp [SameF, hregs]
  · simp [SameControl]

/-- A push followed by a jump: what CALL and RST do (41_control R255, R260). -/
theorem OnlyPush.setPc {v : Word} {s t : State} (h : OnlyPush v s t) (pc : Word) : OnlyPush v s (t.setPc pc) := by
  obtain ⟨hsp, ⟨hdevices, hstored⟩, hregs, hf, hcontrol⟩ := h
  exact ⟨hsp, ⟨hdevices, fun hm ha hb x => (State.busRead_setPc ..).trans (hstored hm ha hb x)⟩,
    fun r hr => (State.setPc_reg ..).trans (hregs r hr), hf, hcontrol⟩

/-- PUSH: the pair's value is pushed (40_load R224). -/
theorem OnlyPush.push (s : State) (q : StackReg) : OnlyPush (s.stackPair q) s (push q (s.pass 1 16)) := by
  rw [Machine.push, State.pass_stackPair]
  exact OnlyPush.pass_push16 s 1 16 _

/-- CALL: the address of the next instruction is pushed (41_control R255). -/
theorem OnlyPush.call (s : State) (nn : Word) : OnlyPush (s.regs.pc + 3) s (call nn (s.pass 3 24)) :=
  (OnlyPush.pass_push16 s 3 24 _).setPc nn

/-- Raising SP by 2 undoes what a push does to it (40_load R200). -/
theorem OnlyPush.sp_add_two {v : Word} {s t : State} (h : OnlyPush v s t) : t.regs.sp + 2 = s.regs.sp := by
  obtain ⟨hsp, -⟩ := h
  rw [hsp, BitVec.sub_add_cancel]

/-- Settles O20: the push of the pair's value; each pair's value is its two halves by definition. -/
theorem pushStoresThePair : Obligations.PushStoresThePair := by
  unfold Obligations.PushStoresThePair
  refine ⟨fun q s => ⟨_, exec_push s q, by cases q <;> rfl, ?_, OnlyPush.push s q⟩,
    fun s => ⟨rfl, rfl, rfl, rfl⟩⟩
  simp [Passed, push, State.push16_regs]

/-- AF keeps the upper nibble of F: of a word written to it, the bits of the mask 0xFFF0 (10_state R31, R33). -/
theorem mkWord_dropLowNibble (v : Word) : mkWord (hiByte v) (loByte v &&& 0xF0) = v &&& 0xFFF0 := by
  have hmask : (0xFFF0 : Word) = mkWord 0xFF 0xF0 := rfl
  have hhigh : hiByte v &&& 0xFF = hiByte v := BitVec.and_allOnes
  conv_rhs => rw [← mkWord_bytes v, hmask, mkWord, mkWord, BitVec.and_append, hhigh]
  rfl

/-- A stack pair reads back what was written to it, AF with its low nibble 0 (10_state R31). -/
theorem State.setStackPair_same (s : State) (q : StackReg) (v : Word) :
    (s.setStackPair q v).stackPair q = if q = .af then v &&& 0xFFF0 else v := by
  cases q with
  | af =>
    have hidem : loByte v &&& 0xF0 &&& 0xF0 = loByte v &&& 0xF0 := by rw [BitVec.and_assoc, BitVec.and_self]
    exact (congrArg (mkWord (hiByte v)) hidem).trans (mkWord_dropLowNibble v)
  | bc => exact State.setPair_pair_same s .bc v
  | de => exact State.setPair_pair_same s .de v
  | hl => exact State.setPair_pair_same s .hl v

/-- A stack pair writes the 8-bit registers it holds and no other (10_state R31). -/
theorem State.setStackPair_reg_of_notMem (s : State) {q : StackReg} {r : Reg8} (h : r ∉ stackHalves q) (v : Word) :
    (s.setStackPair q v).reg r = s.reg r := by
  cases q with
  | bc | de | hl => exact s.setReg_setReg_reg_of_notMem h (hiByte v) (loByte v)
  | af =>
    cases r with
    | a => exact absurd (List.mem_singleton_self _) h
    | _ => rfl

/-- Pop16 reads the word at the stack's top (40_load R200). -/
theorem State.pass_popValue (s : State) (len cost : Nat) : (s.pass len cost).popValue = s.stackTop :=
  congrArg₂ mkWord (State.busRead_pass ..) (State.busRead_pass ..)

/-- The popped value is written to the pair, SP is raised by 2, and nothing else changes but F. -/
theorem pop_effect (s : State) (len cost : Nat) (q : StackReg) {t : State} (ht : t = pop q (s.pass len cost)) :
    Passed len cost s t ∧ t.stackPair q = (if q = .af then s.stackTop &&& 0xFFF0 else s.stackTop) ∧ t.regs.sp = s.regs.sp + 2 ∧
      SameRegs (stackHalves q) s t ∧ SameOutside s t := by
  subst ht
  rw [pop, State.pass_popValue]
  refine ⟨?_, State.setStackPair_same .., ?_, fun r hr => ?_, ?_⟩
  · cases q <;> exact ⟨rfl, rfl⟩
  · cases q <;> rfl
  · exact (State.setStackPair_reg_of_notMem _ hr _).trans ((State.setSp_reg ..).trans (State.pass_reg ..))
  · cases q <;> exact SameOutside.withRegs s _ _

/-- The flags in the upper nibble of a byte whose low nibble F drops (10_state R33). -/
theorem State.flags_of_highNibble {t : State} {b : Byte} (hf : t.regs.f = b &&& 0xF0) :
    t.flagZ = b.getLsbD 7 ∧ t.flagN = b.getLsbD 6 ∧ t.flagH = b.getLsbD 5 ∧ t.flagC = b.getLsbD 4 := by
  simp only [State.flagZ, State.flagN, State.flagH, State.flagC, bitOf, hf, BitVec.getLsbD_and]
  refine ⟨?_, ?_, ?_, ?_⟩ <;> exact Bool.and_true _

/-- Settles O21: `pop_effect`; F is written for AF alone, whose flags are bits 7 to 4 of the byte popped into it. -/
theorem popLoadsThePair : Obligations.PopLoadsThePair := by
  unfold Obligations.PopLoadsThePair
  refine ⟨fun q s hq => ⟨_, exec_pop s q, by cases q <;> rfl, ?_⟩, fun s => ⟨_, exec_pop s .af, rfl, ?_⟩⟩
  · obtain ⟨hpass, hvalue, hsp, hregs, houtside⟩ := pop_effect s 1 12 q rfl
    rw [if_neg hq] at hvalue
    refine ⟨hpass, hvalue, hsp, hregs, ?_, houtside⟩
    cases q with
    | af => exact absurd rfl hq
    | bc | de | hl => rfl
  · obtain ⟨hpass, -, hsp, hregs, houtside⟩ := pop_effect s 1 12 .af rfl
    have ha : hiByte (s.pass 1 12).popValue = s.busRead (s.regs.sp + 1) := by
      rw [State.pass_popValue]
      exact hiByte_mkWord ..
    have hf : loByte (s.pass 1 12).popValue &&& 0xF0 = s.busRead s.regs.sp &&& 0xF0 := by
      rw [State.pass_popValue]
      exact congrArg (· &&& 0xF0) (loByte_mkWord ..)
    obtain ⟨hz, hn, hh, hc⟩ := State.flags_of_highNibble (t := pop .af (s.pass 1 12)) hf
    exact ⟨hpass, ha, hf, hz, hn, hh, hc, hsp, hregs, houtside⟩

/-! A pop after a push. -/

theorem regionOf_echo_iff (a : Word) : regionOf a = .echo ↔ 0xE000 ≤ a.toNat ∧ a.toNat ≤ 0xFDFF := by
  refine ⟨fun h => ?_, fun ⟨h1, h2⟩ => regionOf_echo h1 h2⟩
  have hrange := regionOf_range a
  rw [h] at hrange
  exact ⟨hrange.1, Nat.le_of_lt_succ hrange.2⟩

/-- Neighbouring addresses have different storage: where the echo begins and ends, the work RAM it stands for is no neighbour
(20_memory R100, R103). -/
theorem storageOf_succ_ne (a : Word) : storageOf (a + 1) ≠ storageOf a := fun h => by
  have hnat := congrArg BitVec.toNat h
  have hsucc : (a + 1).toNat = (a.toNat + 1) % 0x10000 := BitVec.toNat_add ..
  simp only [storageOf_toNat, regionOf_echo_iff, hsucc] at hnat
  split_ifs at hnat <;> omega

/-- After a push onto plain storage the two bytes at SP are the word pushed (40_load R200, 20_memory R101). -/
theorem OnlyPush.stackTop {v : Word} {s t : State} (h : OnlyPush v s t) (hm : s.mem.wf) (hhigh : s.plainAt (s.regs.sp - 1))
    (hlow : s.plainAt (s.regs.sp - 2)) : t.stackTop = v := by
  obtain ⟨hsp, ⟨-, hstored⟩, -⟩ := h
  have hnext : s.regs.sp - 1 = s.regs.sp - 2 + 1 := by bv_omega
  have hne : storageOf (s.regs.sp - 1) ≠ storageOf (s.regs.sp - 2) := hnext ▸ storageOf_succ_ne _
  have hread := hstored hm hhigh hlow
  rw [State.stackTop, hsp, ← hnext, hread, hread, if_neg hne, if_pos rfl, if_pos rfl]
  exact mkWord_bytes v

/-- Settles O22: a push leaves the word at the stack's top (`OnlyPush.stackTop`), where POP and RET read it, and they raise SP again. -/
theorem stackRoundTrips : Obligations.StackRoundTrips := by
  unfold Obligations.StackRoundTrips
  intro s hm hhigh hlow
  refine ⟨fun p q => ⟨_, _, exec_push s p, exec_pop _ q, ?_⟩, fun nn => ⟨_, _, exec_call s nn, rfl, exec_ret _, ?_⟩⟩
  · obtain ⟨-, hvalue, hsp, -⟩ := pop_effect (push p (s.pass 1 16)) 1 12 q rfl
    rw [(OnlyPush.push s p).stackTop hm hhigh hlow] at hvalue
    exact ⟨hvalue, hsp.trans (OnlyPush.push s p).sp_add_two⟩
  · have hcall := OnlyPush.call s nn
    exact ⟨(State.pass_popValue ..).trans (hcall.stackTop hm hhigh hlow), hcall.sp_add_two⟩

end Sys2Proof.Machine

/-! Jumps, calls and returns (41_control R250, R252, R253, R255 to R260). -/

namespace Sys2Proof.Machine

/-- An instruction that only sets pc. -/
theorem jump_effect (s : State) (len cost : Nat) (pc : Word) {t : State} (ht : t = (s.pass len cost).setPc pc) :
    Jumped pc cost s t ∧ OnlyRegs [] s t := by
  subst ht
  exact ⟨⟨rfl, rfl⟩, OnlyRegs.setPc s pc _⟩

/-- Settles O23: each is `jump_effect`, with the target its rule names. -/
theorem jumpsGoToTheirTarget : Obligations.JumpsGoToTheirTarget := by
  unfold Obligations.JumpsGoToTheirTarget
  exact ⟨fun nn s => ⟨_, exec_jump s nn, rfl, jump_effect s 3 16 nn rfl⟩,
    fun s => ⟨_, exec_jumpHL s, rfl, jump_effect s 1 4 s.hl rfl⟩,
    fun e s => ⟨_, exec_jumpRel s e, rfl, jump_effect s 2 12 _ rfl⟩⟩

/-- A conditional call or return is its taken branch where `cc` holds, and only passes where it does not (30_encoding R154). -/
theorem ifCond_effect (s : State) (cc : Cond) (len cost : Nat) {taken t : State}
    (ht : t = if (s.pass len cost).cond cc then taken else s.pass len cost) :
    (s.cond cc = true → t = taken) ∧ (s.cond cc = false → Passed len cost s t ∧ OnlyRegs [] s t) := by
  rw [State.pass_cond] at ht
  refine ⟨fun h => ht.trans (if_pos h), fun h => ?_⟩
  rw [ht, h]
  exact ⟨⟨rfl, rfl⟩, OnlyRegs.setPc s _ _⟩

/-! Calls. -/

/-- The cost of a taken call is charged after the push (41_control R256). -/
theorem OnlyPush.addCycles {v : Word} {s t : State} (h : OnlyPush v s t) (n : Nat) : OnlyPush v s (t.addCycles n) := by
  obtain ⟨hsp, ⟨hdevices, hstored⟩, hregs, hf, hcontrol⟩ := h
  exact ⟨hsp, ⟨hdevices, fun hm ha hb x => (State.busRead_addCycles ..).trans (hstored hm ha hb x)⟩,
    fun r hr => (State.addCycles_reg ..).trans (hregs r hr), hf, hcontrol⟩

/-- A call pushes the address of the next instruction and sets pc; `n` is what it costs beyond its instruction's base cost
(41_control R255, R256, R260). -/
theorem call_effect (s : State) (len cost n : Nat) (nn : Word) {t : State} (ht : t = (call nn (s.pass len cost)).addCycles n) :
    Jumped nn (cost + n) s t ∧ OnlyPush (s.regs.pc + BitVec.ofNat 16 len) s t := by
  subst ht
  have hcycles : (call nn (s.pass len cost)).cycles = s.cycles + cost := State.push16_cycles ..
  exact ⟨⟨rfl, (congrArg (· + n) hcycles).trans (Nat.add_assoc ..)⟩, ((OnlyPush.pass_push16 s len cost _).setPc nn).addCycles n⟩

/-- Settles O25: CALL and RST are `call_effect` with no extra cost, CALL cc is `call_effect` or only passes. -/
theorem callsPushTheReturnAddress : Obligations.CallsPushTheReturnAddress := by
  unfold Obligations.CallsPushTheReturnAddress
  exact ⟨fun nn s => ⟨_, exec_call s nn, rfl, call_effect s 3 24 0 nn rfl⟩,
    fun cc nn s => ⟨_, exec_callCond s cc nn, by cases cc <;> rfl,
      (ifCond_effect s cc 3 12 rfl).imp_left fun taken h => call_effect s 3 12 12 nn (taken h)⟩,
    fun y s => ⟨_, exec_rst s y, by fin_cases y <;> rfl, call_effect s 1 16 0 _ rfl⟩⟩

/-! Returns. -/

/-- A return pops pc; `n` is what it costs beyond its instruction's base cost (41_control R257, R258). -/
theorem ret_effect (s : State) (len cost n : Nat) {t : State} (ht : t = (ret (s.pass len cost)).addCycles n) :
    Jumped s.stackTop (cost + n) s t ∧ OnlyPop s t := by
  subst ht
  exact ⟨⟨State.pass_popValue .., Nat.add_assoc ..⟩, rfl, fun r _ => by cases r <;> rfl, rfl, SameOutside.withRegs s _ _⟩

/-- RETI: a return, after which IME is 1 and ei_pending 0 (41_control R259). -/
theorem reti_effect (s : State) (len cost : Nat) {t : State} (ht : t = reti (s.pass len cost)) :
    Jumped s.stackTop cost s t ∧ t.ime = true ∧ t.eiPending = false ∧ t.regs.sp = s.regs.sp + 2 ∧ SameRegs [] s t ∧ SameF s t ∧
      t.halted = s.halted ∧ t.fault = s.fault ∧ t.totalCycles = s.totalCycles ∧ t.params = s.params ∧
      SameDevices s t ∧ SameMemory s t := by
  subst ht
  obtain ⟨hjump, hsp, hregs, hf, ⟨-, -, hcontrol⟩, hdevices, -⟩ := ret_effect s len cost 0 rfl
  obtain ⟨hhalted, hfault, htotal, hparams⟩ := hcontrol
  exact ⟨hjump, rfl, rfl, hsp, hregs, hf, hhalted, hfault, htotal, hparams, hdevices, State.busRead_congr hdevices hparams⟩

/-- Settles O26: RET is `ret_effect` with no extra cost, RET cc is `ret_effect` or only passes, RETI is `reti_effect`. -/
theorem returnsPopThePc : Obligations.ReturnsPopThePc := by
  unfold Obligations.ReturnsPopThePc
  exact ⟨fun s => ⟨_, exec_ret s, rfl, ret_effect s 1 16 0 rfl⟩,
    fun cc s => ⟨_, exec_retCond s cc, by cases cc <;> rfl,
      (ifCond_effect s cc 1 8 rfl).imp_left fun taken h => ret_effect s 1 8 12 (taken h)⟩,
    fun s => ⟨_, exec_reti s, rfl, reti_effect s 1 16 rfl⟩⟩

end Sys2Proof.Machine

/-! Increment and decrement (42_incdec R280 to R285): the stepped byte and its flags as numbers, and what an instruction that also writes the
flags leaves unchanged. -/

namespace Sys2Proof.Machine

theorem inc8_res_toNat (v : Byte) (c : Bool) : (inc8 v c).res.toNat = (v.toNat + 1) % 256 := BitVec.toNat_add v 1

theorem dec8_res_toNat (v : Byte) (c : Bool) : (dec8 v c).res.toNat = (v.toNat + 255) % 256 :=
  (BitVec.toNat_sub v 1).trans (congrArg (· % 256) (Nat.add_comm ..))

/-- INC gives 0 at the wrap alone (42_incdec R280). -/
theorem inc8_z (v : Byte) (c : Bool) : (inc8 v c).z = decide (v.toNat = 0xFF) := by
  have hwrap : v + 1 = 0 ↔ v.toNat = 0xFF := by bv_omega
  exact decide_eq_decide.2 hwrap

theorem dec8_z (v : Byte) (c : Bool) : (dec8 v c).z = decide (v.toNat = 1) := by
  have hone : v - 1 = 0 ↔ v.toNat = 1 := by bv_omega
  exact decide_eq_decide.2 hone

section
variable {s t : State} {rs : List Reg8}

theorem OnlyRegsF.setFlags (hframe : OnlyRegsF rs s t) (z n h c : Bool) : OnlyRegsF rs s (t.setFlags z n h c) := by
  obtain ⟨hregs, hsp, hcontrol, hdevices, hmemory⟩ := hframe
  exact ⟨fun r hr => (State.setFlags_reg ..).trans (hregs r hr), hsp, hcontrol, hdevices,
    fun a => (State.busRead_setFlags ..).trans (hmemory a)⟩

theorem OnlyStoreF.setFlags {a : Word} {v : Byte} (hframe : OnlyStoreF rs a v s t) (z n h c : Bool) :
    OnlyStoreF rs a v s (t.setFlags z n h c) := by
  obtain ⟨hregs, hsp, hcontrol, hdevices, hstored⟩ := hframe
  exact ⟨fun r hr => (State.setFlags_reg ..).trans (hregs r hr), hsp, hcontrol, hdevices,
    fun hm hplain x => (State.busRead_setFlags ..).trans (hstored hm hplain x)⟩

end

/-- An instruction that writes one 8-bit register and the flags. -/
theorem loadRegFlags_effect (s : State) (len cost : Nat) (dst : Reg8) (v : Byte) (z n h c : Bool) {t : State}
    (ht : t = ((s.pass len cost).setReg dst v).setFlags z n h c) :
    Passed len cost s t ∧ t.reg dst = v ∧ FlagsAre t z n h c ∧ OnlyRegsF [dst] s t := by
  subst ht
  obtain ⟨hpass, hvalue, hframe, -⟩ := loadReg_effect s len cost dst v rfl
  exact ⟨hpass, (State.setFlags_reg ..).trans hvalue, FlagsAre.setFlags .., hframe.setFlags z n h c⟩

/-- An instruction that stores one byte and writes the flags. -/
theorem storeFlags_effect (s : State) (len cost : Nat) (a : Word) (v : Byte) (z n h c : Bool) {t : State}
    (ht : t = ((s.pass len cost).busWrite a v).setFlags z n h c) :
    Passed len cost s t ∧ OnlyStoreF [] a v s t ∧ FlagsAre t z n h c := by
  subst ht
  obtain ⟨hpass, hframe, -⟩ := store_effect s len cost a v rfl
  exact ⟨hpass, hframe.setFlags z n h c, FlagsAre.setFlags ..⟩

/-- Settles O27: `loadRegFlags_effect` with the stepped register and its flags. -/
theorem byteIncrementAndDecrement : Obligations.ByteIncrementAndDecrement := by
  unfold Obligations.ByteIncrementAndDecrement
  refine ⟨fun r s => ⟨_, exec_incReg s r, by cases r <;> rfl, ?_⟩, fun r s => ⟨_, exec_decReg s r, by cases r <;> rfl, ?_⟩⟩
  · rw [← inc8_z (s.reg r) s.flagC, ← inc8_res_toNat (s.reg r) s.flagC]
    obtain ⟨hpass, hvalue, hrest⟩ := loadRegFlags_effect s 1 4 r (inc8 (s.reg r) s.flagC).res _ _ _ _
      (t := incReg r (s.pass 1 4)) (by rw [incReg, State.pass_reg, State.pass_flagC, State.setAluFlags])
    exact ⟨hpass, congrArg BitVec.toNat hvalue, hrest⟩
  · rw [← dec8_z (s.reg r) s.flagC, ← dec8_res_toNat (s.reg r) s.flagC]
    obtain ⟨hpass, hvalue, hrest⟩ := loadRegFlags_effect s 1 4 r (dec8 (s.reg r) s.flagC).res _ _ _ _
      (t := decReg r (s.pass 1 4)) (by rw [decReg, State.pass_reg, State.pass_flagC, State.setAluFlags])
    exact ⟨hpass, congrArg BitVec.toNat hvalue, hrest⟩

/-- Settles O28: `storeFlags_effect` at HL with the byte read there, stepped, and its flags. -/
theorem memoryIncrementAndDecrement : Obligations.MemoryIncrementAndDecrement := by
  unfold Obligations.MemoryIncrementAndDecrement
  refine ⟨fun s => ⟨_, (inc8 (s.busRead s.hl) s.flagC).res, exec_incAtHL s, rfl, ?_⟩,
    fun s => ⟨_, (dec8 (s.busRead s.hl) s.flagC).res, exec_decAtHL s, rfl, ?_⟩⟩
  · rw [← inc8_z (s.busRead s.hl) s.flagC]
    obtain ⟨hpass, hrest⟩ := storeFlags_effect s 1 12 s.hl (inc8 (s.busRead s.hl) s.flagC).res _ _ _ _
      (t := incAtHL (s.pass 1 12)) (by rw [incAtHL, State.busRead_pass, State.pass_hl, State.pass_flagC, State.setAluFlags])
    exact ⟨hpass, inc8_res_toNat .., hrest⟩
  · rw [← dec8_z (s.busRead s.hl) s.flagC]
    obtain ⟨hpass, hrest⟩ := storeFlags_effect s 1 12 s.hl (dec8 (s.busRead s.hl) s.flagC).res _ _ _ _
      (t := decAtHL (s.pass 1 12)) (by rw [decAtHL, State.busRead_pass, State.pass_hl, State.pass_flagC, State.setAluFlags])
    exact ⟨hpass, dec8_res_toNat .., hrest⟩

/-- Settles O29: `loadPair_effect` with the pair stepped modulo 0x10000. -/
theorem pairIncrementAndDecrement : Obligations.PairIncrementAndDecrement := by
  unfold Obligations.PairIncrementAndDecrement
  refine ⟨fun p s => ⟨_, exec_incPair s p, by cases p <;> rfl, ?_⟩, fun p s => ⟨_, exec_decPair s p, by cases p <;> rfl, ?_⟩⟩
  · obtain ⟨hpass, hvalue, hframe⟩ := loadPair_effect s 1 8 p (s.pair p + 1) (t := incPair p (s.pass 1 8))
      (by rw [incPair, State.pass_pair])
    exact ⟨hpass, (congrArg BitVec.toNat hvalue).trans (BitVec.toNat_add ..), hframe⟩
  · obtain ⟨hpass, hvalue, hframe⟩ := loadPair_effect s 1 8 p (s.pair p - 1) (t := decPair p (s.pass 1 8))
      (by rw [decPair, State.pass_pair])
    have hstep : (s.pair p - 1).toNat = ((s.pair p).toNat + 0xFFFF) % 0x10000 := by bv_omega
    exact ⟨hpass, (congrArg BitVec.toNat hvalue).trans hstep, hframe⟩

end Sys2Proof.Machine

/-! The 8-bit operations on A and the 16-bit addition to HL (43_alu R300 to R310): the adder's and the subtractor's results and flags as
numbers, and what an operation leaves in A. -/

namespace Sys2Proof.Machine

theorem add8_res_toNat (a b : Byte) (cin : Bool) : (add8 a b cin).res.toNat = (a.toNat + b.toNat + cin.toNat) % 256 :=
  BitVec.toNat_ofNat ..

theorem add8_z (a b : Byte) (cin : Bool) : (add8 a b cin).z = decide ((a.toNat + b.toNat + cin.toNat) % 256 = 0) := by
  rw [← add8_res_toNat]
  exact decide_eq_decide.2 BitVec.toNat_inj.symm

/-- The difference modulo 256; 512 is more than the two subtrahends together. -/
theorem sub8_res_toNat (a b : Byte) (cin : Bool) : (sub8 a b cin).res.toNat = (a.toNat + 512 - b.toNat - cin.toNat) % 256 := by
  have hres : (sub8 a b cin).res.toNat = (((a.toNat : Int) - b.toNat - cin.toNat) % 256).toNat := BitVec.toNat_ofInt ..
  have hcin := Bool.toNat_le cin
  omega

theorem sub8_z (a b : Byte) (cin : Bool) : (sub8 a b cin).z = decide ((a.toNat + 512 - b.toNat - cin.toNat) % 256 = 0) := by
  rw [← sub8_res_toNat]
  exact decide_eq_decide.2 BitVec.toNat_inj.symm

/-- Without a borrow in, the difference is 0 for equal bytes alone. -/
theorem sub8_false_z (a b : Byte) : (sub8 a b false).z = decide (a.toNat = b.toNat) := by
  rw [sub8_z, Bool.toNat_false]
  exact decide_eq_decide.2 (by omega)

theorem sub8_h (a b : Byte) (cin : Bool) : (sub8 a b cin).h = decide (a.toNat % 16 < b.toNat % 16 + cin.toNat) :=
  decide_eq_decide.2 (by omega)

theorem FlagsAre.setAluFlags (s : State) (o : AluOut) : FlagsAre (s.setAluFlags o) o.z o.n o.h o.c := FlagsAre.setFlags ..

/-- What A holds after an operation: its result, but for CP what A held. -/
def aluKept (op : AluOp) (a v : Byte) (c : Bool) : Byte := if op = .cp then a else (aluOut op a v c).res

/-- Every operation writes A and the flags; CP writes A with its own value. -/
theorem aluWith_eq (op : AluOp) (v : Byte) (s : State) :
    aluWith op v s = (s.setReg .a (aluKept op (s.reg .a) v s.flagC)).setAluFlags (aluOut op (s.reg .a) v s.flagC) := by
  cases op <;> rfl

section
variable (s : State) (a v : Byte)

/-- Add8 is the rule of ADC; without a carry in, the rule of ADD (43_alu R301, R302). -/
theorem add8_aluRule (c : Bool) : AluRule .adc a.toNat v.toNat c.toNat (add8 a v c).res (s.setAluFlags (add8 a v c)) := by
  have hflags := FlagsAre.setAluFlags s (add8 a v c)
  rw [add8_z] at hflags
  exact ⟨add8_res_toNat a v c, hflags⟩

/-- Sub8 with the carry as its borrow is the rule of SBC (43_alu R304). -/
theorem sub8_aluRule (c : Bool) : AluRule .sbc a.toNat v.toNat c.toNat (sub8 a v c).res (s.setAluFlags (sub8 a v c)) := by
  have hflags := FlagsAre.setAluFlags s (sub8 a v c)
  rw [sub8_z, sub8_h] at hflags
  exact ⟨sub8_res_toNat a v c, hflags⟩

/-- Sub8 without a borrow is the rule of SUB, which reads no carry (43_alu R303). -/
theorem sub8_false_aluRule (cin : Nat) : AluRule .sub a.toNat v.toNat cin (sub8 a v false).res (s.setAluFlags (sub8 a v false)) := by
  have hres : (sub8 a v false).res.toNat = (a.toNat + 256 - v.toNat) % 256 := by
    rw [sub8_res_toNat, Bool.toNat_false]
    omega
  have hflags := FlagsAre.setAluFlags s (sub8 a v false)
  rw [sub8_false_z, sub8_h] at hflags
  exact ⟨hres, hflags⟩

/-- A logic operation's result and flags, for the number `n` that its result is (43_alu R305 to R307). -/
theorem logic8_flags {res : Byte} {n : Nat} (h : Bool) (hres : res.toNat = n) :
    res.toNat = n ∧ FlagsAre (s.setAluFlags (logic8 res h)) (decide (n = 0)) false h false := by
  have hz : (logic8 res h).z = decide (n = 0) := by
    rw [← hres]
    exact decide_eq_decide.2 BitVec.toNat_inj.symm
  have hflags := FlagsAre.setAluFlags s (logic8 res h)
  rw [hz] at hflags
  exact ⟨hres, hflags⟩

/-- The computed result and flags are those of the operation's rule (43_alu R301 to R308). -/
theorem aluOut_aluRule (op : AluOp) (c : Bool) :
    AluRule op a.toNat v.toNat c.toNat (aluKept op a v c) (s.setAluFlags (aluOut op a v c)) := by
  cases op with
  | add => exact add8_aluRule s a v false
  | adc => exact add8_aluRule s a v c
  | sub => exact sub8_false_aluRule s a v c.toNat
  | sbc => exact sub8_aluRule s a v c
  | and => exact logic8_flags s true (BitVec.toNat_and ..)
  | xor => exact logic8_flags s false (BitVec.toNat_xor ..)
  | or => exact logic8_flags s false (BitVec.toNat_or ..)
  | cp =>
    obtain ⟨-, hflags⟩ := sub8_false_aluRule s a v c.toNat
    exact ⟨rfl, hflags⟩

end

/-- An operation on A and a byte: A and the flags by its rule, and nothing else changed. -/
theorem aluWith_effect (s : State) (len cost : Nat) (op : AluOp) (v : Byte) {t : State} (ht : t = aluWith op v (s.pass len cost)) :
    Passed len cost s t ∧ AluRule op (s.reg .a).toNat v.toNat s.flagC.toNat (t.reg .a) t ∧ OnlyRegsF [.a] s t := by
  rw [aluWith_eq, State.pass_reg, State.pass_flagC] at ht
  obtain ⟨hpass, hvalue, -, hframe⟩ := loadRegFlags_effect s len cost .a _ _ _ _ _ ht
  rw [hvalue]
  exact ⟨hpass, ht ▸ aluOut_aluRule _ _ _ op _, hframe⟩

theorem State.pass_src8 (s : State) (len cost : Nat) (o : Operand8) : (s.pass len cost).src8 o = s.src8 o := by
  cases o with
  | reg r => exact State.pass_reg ..
  | atHL => exact State.busRead_pass ..

theorem encode_alu (op : AluOp) (o : Operand8) : encode (Instr.alu op o) = [BitVec.ofNat 8 (0x80 + 8 * op.sel + o.sel)] := by
  cases o with
  | reg r => cases op <;> cases r <;> rfl
  | atHL => cases op <;> rfl

/-- Settles O30: `aluWith_effect` with the source's byte or the immediate one. -/
theorem aluOperationsOnA : Obligations.AluOperationsOnA := by
  unfold Obligations.AluOperationsOnA
  refine ⟨fun op o s => ⟨_, exec_alu s op o, encode_alu op o, aluWith_effect s 1 _ op (s.src8 o) ?_⟩,
    fun op n s => ⟨_, exec_aluImm s op n, by cases op <;> rfl, aluWith_effect s 2 8 op n rfl⟩, fun r s => ⟨rfl, rfl⟩⟩
  rw [alu, State.pass_src8]

/-- Settles O31: `loadPairFlags_effect` with the sum in HL, Z kept. -/
theorem addToHL : Obligations.AddToHL := by
  unfold Obligations.AddToHL
  intro p s
  obtain ⟨hpass, hvalue, hrest⟩ := loadPairFlags_effect s 1 8 .hl (s.hl + s.pair p) s.flagZ false (halfCarry16 s.hl (s.pair p))
    (carry16 s.hl (s.pair p)) (t := addHL p (s.pass 1 8)) (by rw [addHL, State.pass_hl, State.pass_pair, State.pass_flagZ])
  exact ⟨_, exec_addHL s p, by cases p <;> rfl, hpass, (congrArg BitVec.toNat hvalue).trans (BitVec.toNat_add ..), hrest⟩

end Sys2Proof.Machine

/-! Rotates, shifts and the bit operations (44_rotate_shift R330 to R345): the results and the bit moved out as numbers, and what an
instruction that writes an operand of the form r or (HL) leaves unchanged. -/

namespace Sys2Proof.Machine

/-! Results as numbers. -/

theorem toNat_bitOf_zero (v : Byte) : (bitOf v 0).toNat = v.toNat % 2 := by
  rw [bitOf, BitVec.getLsbD, Nat.toNat_testBit, Nat.pow_zero, Nat.div_one]

theorem toNat_bitOf_seven (v : Byte) : (bitOf v 7).toNat = v.toNat / 128 :=
  (Nat.toNat_testBit ..).trans (Nat.mod_eq_of_lt (Nat.div_lt_of_lt_mul v.isLt))

/-- A shift to the left leaves `k` bits clear, so what is ORed into them is added. -/
theorem toNat_shiftLeft_or {k : Nat} (x : Byte) {y : Byte} (hy : y.toNat < 2 ^ k) :
    (x <<< k ||| y).toNat = 2 ^ k * x.toNat % 256 + y.toNat := by
  have hclear : x <<< k &&& y = 0#8 := by
    apply BitVec.eq_of_getLsbD_eq
    intro i _
    rw [BitVec.getLsbD_and, BitVec.getLsbD_shiftLeft, BitVec.getLsbD_zero]
    by_cases hik : i < k
    · simp [hik]
    · have hi : y.getLsbD i = false :=
        Nat.testBit_lt_two_pow (hy.trans_le (Nat.pow_le_pow_right (by decide) (Nat.le_of_not_lt hik)))
      rw [hi, Bool.and_false]
  rw [← BitVec.add_eq_or_of_and_eq_zero _ _ hclear, BitVec.toNat_add_of_and_eq_zero hclear, BitVec.toNat_shiftLeft,
    Nat.shiftLeft_eq, Nat.mul_comm]

theorem toNat_shiftRight (v : Byte) (k : Nat) : (v >>> k).toNat = v.toNat / 2 ^ k :=
  (BitVec.toNat_ushiftRight ..).trans (Nat.shiftRight_eq_div_pow ..)

theorem toNat_flagByte (c : Bool) : ((BitVec.ofBool c).setWidth 8).toNat = c.toNat := by cases c <;> rfl

theorem toNat_withBit0_shiftLeft (v : Byte) (c : Bool) : (withBit0 (v <<< 1) c).toNat = (2 * v.toNat + c.toNat) % 256 := by
  have hc := Bool.toNat_le c
  rw [withBit0, toNat_shiftLeft_or v (by rw [toNat_flagByte]; omega), toNat_flagByte]
  omega

theorem toNat_withBit7_shiftRight (v : Byte) (c : Bool) : (withBit7 (v >>> 1) c).toNat = v.toNat / 2 + 128 * c.toNat := by
  have hc := Bool.toNat_le c
  have hv : (v >>> 1).toNat = v.toNat / 2 := toNat_shiftRight v 1
  rw [withBit7, BitVec.or_comm, toNat_shiftLeft_or _ (by omega), toNat_flagByte, hv]
  omega

/-- SRA keeps bit 7: the shifted byte gets the bit back that it had there (44_rotate_shift R340). -/
theorem rotRes_sra (v : Byte) (c : Bool) : rotRes .sra v c = withBit7 (v >>> 1) (bitOf v 7) := by
  have hsign : v &&& (0x80 : Byte) = (BitVec.ofBool (bitOf v 7)).setWidth 8 <<< 7 := by
    refine (BitVec.and_twoPow v 7).trans ?_
    rw [bitOf]
    cases v.getLsbD 7 <;> rfl
  rw [rotRes, withBit7, hsign]

/-- The computed result is the rule's number (44_rotate_shift R330 to R342). -/
theorem toNat_rotRes (op : RotOp) (v : Byte) (c : Bool) : (rotRes op v c).toNat = rotRule op v.toNat c.toNat := by
  cases op with
  | rlc => rw [rotRes, toNat_withBit0_shiftLeft, toNat_bitOf_seven, rotRule]
  | rrc => rw [rotRes, toNat_withBit7_shiftRight, toNat_bitOf_zero, rotRule]
  | rl => exact toNat_withBit0_shiftLeft v c
  | rr => exact toNat_withBit7_shiftRight v c
  | sla => rw [rotRes, BitVec.toNat_shiftLeft, Nat.shiftLeft_eq, Nat.mul_comm, rotRule]
  | sra => rw [rotRes_sra, toNat_withBit7_shiftRight, toNat_bitOf_seven, rotRule]
  | swap =>
    have hhigh : (v >>> 4).toNat = v.toNat / 16 := toNat_shiftRight v 4
    rw [rotRes, toNat_shiftLeft_or v (by omega), hhigh, rotRule]
    omega
  | srl => exact toNat_shiftRight v 1

/-- The bit moved into C is the rule's (44_rotate_shift R330 to R342). -/
theorem rotCarry_eq (op : RotOp) (v : Byte) : rotCarry op v = rotCarryRule op v.toNat := by
  cases op with
  | rlc | rl | sla => exact BitVec.msb_eq_decide v
  | rrc | rr | sra | srl => exact Nat.testBit_zero v.toNat
  | swap => rfl

theorem rotOut_z (op : RotOp) (v : Byte) (c : Bool) : (rotOut op v c).z = decide (rotRule op v.toNat c.toNat = 0) := by
  rw [← toNat_rotRes]
  exact decide_eq_decide.2 BitVec.toNat_inj.symm

/-! The accumulator rotates. -/

/-- An accumulator rotate: A by its rule, the carry, and nothing else changed (44_rotate_shift R330 to R333). -/
theorem rotateA_effect (s : State) (len cost : Nat) (op : RotOp) {t : State} (ht : t = rotateA op (s.pass len cost)) :
    Passed len cost s t ∧ (t.reg .a).toNat = rotRule op (s.reg .a).toNat s.flagC.toNat ∧
      FlagsAre t false false false (rotCarryRule op (s.reg .a).toNat) ∧ OnlyRegsF [.a] s t := by
  rw [rotateA, State.pass_reg, State.pass_flagC, rotCarry_eq] at ht
  obtain ⟨hpass, hvalue, hrest⟩ := loadRegFlags_effect s len cost .a _ _ _ _ _ ht
  exact ⟨hpass, (congrArg BitVec.toNat hvalue).trans (toNat_rotRes ..), hrest⟩

/-- Settles O32: the four are `rotateA_effect`, each with its operation. -/
theorem accumulatorRotates : Obligations.AccumulatorRotates := by
  unfold Obligations.AccumulatorRotates
  exact ⟨fun s => ⟨_, exec_rlca s, rfl, rotateA_effect s 1 4 .rlc rfl⟩, fun s => ⟨_, exec_rrca s, rfl, rotateA_effect s 1 4 .rrc rfl⟩,
    fun s => ⟨_, exec_rla s, rfl, rotateA_effect s 1 4 .rl rfl⟩, fun s => ⟨_, exec_rra s, rfl, rotateA_effect s 1 4 .rr rfl⟩⟩

/-! Writing an operand r or (HL). -/

/-- An instruction that writes its operand and no flag. -/
theorem dst8_effect (s : State) (len cost : Nat) (o : Operand8) (v : Byte) {t : State} (ht : t = (s.pass len cost).dst8 o v) :
    Passed len cost s t ∧ WroteOperandF o v s t ∧ SameF s t := by
  cases o with
  | reg r =>
    obtain ⟨hpass, hvalue, hframe, hf⟩ := loadReg_effect s len cost r v ht
    exact ⟨hpass, ⟨hvalue, hframe⟩, hf⟩
  | atHL => exact store_effect s len cost s.hl v ht

theorem WroteOperandF.setFlags {o : Operand8} {v : Byte} {s t : State} (hwrote : WroteOperandF o v s t) (z n h c : Bool) :
    WroteOperandF o v s (t.setFlags z n h c) := by
  cases o with
  | reg r =>
    obtain ⟨hvalue, hframe⟩ := hwrote
    exact ⟨(State.setFlags_reg ..).trans hvalue, hframe.setFlags z n h c⟩
  | atHL => exact OnlyStoreF.setFlags hwrote z n h c

/-- A CB rotate or shift: the operand written with the result, and the flags (44_rotate_shift R335 to R342). -/
theorem rotateShift_effect (s : State) (len cost : Nat) (op : RotOp) (o : Operand8) {t : State}
    (ht : t = rotateShift op o (s.pass len cost)) :
    Passed len cost s t ∧ WroteOperandF o (rotRes op (s.src8 o) s.flagC) s t ∧
      FlagsAre t (decide (rotRule op (s.src8 o).toNat s.flagC.toNat = 0)) false false (rotCarryRule op (s.src8 o).toNat) := by
  rw [rotateShift, State.pass_src8, State.pass_flagC] at ht
  subst ht
  obtain ⟨hpass, hwrote, -⟩ := dst8_effect s len cost o (rotRes op (s.src8 o) s.flagC) rfl
  rw [← rotOut_z, ← rotCarry_eq]
  exact ⟨hpass, hwrote.setFlags _ _ _ _, FlagsAre.setAluFlags ..⟩

theorem encode_rot (op : RotOp) (o : Operand8) : encode (Instr.rot op o) = [0xCB, BitVec.ofNat 8 (8 * op.sel + o.sel)] := by
  cases o with
  | reg r => cases op <;> cases r <;> rfl
  | atHL => cases op <;> rfl

/-- Settles O33: `rotateShift_effect`, the byte written being the rule's number (`toNat_rotRes`). -/
theorem cbRotatesAndShifts : Obligations.CbRotatesAndShifts := by
  unfold Obligations.CbRotatesAndShifts
  intro op o s
  obtain ⟨hpass, hrest⟩ := rotateShift_effect s 2 (if o = .atHL then 16 else 8) op o rfl
  exact ⟨_, _, exec_rot s op o, encode_rot op o, hpass, toNat_rotRes .., hrest⟩

/-! The bit operations. -/

/-- A bit operation is encoded on the CB page by its bit and its operand (30_encoding R171). -/
theorem encode_bitOperation (b : Fin 8) (o : Operand8) :
    encode (Instr.bitTest b o) = [0xCB, BitVec.ofNat 8 (0x40 + 8 * b.val + o.sel)] ∧
      encode (Instr.bitReset b o) = [0xCB, BitVec.ofNat 8 (0x80 + 8 * b.val + o.sel)] ∧
      encode (Instr.bitSet b o) = [0xCB, BitVec.ofNat 8 (0xC0 + 8 * b.val + o.sel)] := by
  cases o with
  | reg r => fin_cases b <;> cases r <;> exact ⟨rfl, rfl, rfl⟩
  | atHL => fin_cases b <;> exact ⟨rfl, rfl, rfl⟩

theorem getLsbD_bitMask (b : Fin 8) (i : Nat) : (bitMask b).getLsbD i = decide (i = b.val) := by
  rw [bitMask, ← BitVec.twoPow_eq, BitVec.getLsbD_twoPow, decide_eq_true b.isLt, Bool.true_and]
  exact decide_eq_decide.2 eq_comm

theorem getLsbD_and_not_bitMask (v : Byte) (b : Fin 8) {i : Nat} (hi : i < 8) :
    (v &&& ~~~(bitMask b)).getLsbD i = if i = b.val then false else v.getLsbD i := by
  rw [BitVec.getLsbD_and, BitVec.getLsbD_not, getLsbD_bitMask, decide_eq_true hi]
  split <;> simp [*]

theorem getLsbD_or_bitMask (v : Byte) (b : Fin 8) (i : Nat) :
    (v ||| bitMask b).getLsbD i = if i = b.val then true else v.getLsbD i := by
  rw [BitVec.getLsbD_or, getLsbD_bitMask]
  split <;> simp [*]

/-- BIT writes the flags and no operand (44_rotate_shift R343). -/
theorem bitTest_effect (s : State) (len cost : Nat) (b : Fin 8) (o : Operand8) {t : State} (ht : t = bitTest b o (s.pass len cost)) :
    Passed len cost s t ∧ FlagsAre t (!(s.src8 o).getLsbD b.val) false true s.flagC ∧ OnlyRegsF [] s t := by
  rw [bitTest, State.pass_src8, State.pass_flagC] at ht
  subst ht
  exact ⟨⟨rfl, rfl⟩, FlagsAre.setFlags .., OnlyRegsF.withRegs s _ _ (fun r _ => by cases r <;> rfl) rfl⟩

/-- Settles O34: BIT is `bitTest_effect`; RES and SET write their operand (`dst8_effect`) with the mask's bit alone changed
(`getLsbD_and_not_bitMask`, `getLsbD_or_bitMask`). -/
theorem bitTestResetAndSet : Obligations.BitTestResetAndSet := by
  unfold Obligations.BitTestResetAndSet
  refine ⟨fun b o s => ?_, fun b o s => ?_, fun b o s => ?_⟩
  · obtain ⟨hencode, -, -⟩ := encode_bitOperation b o
    exact ⟨_, exec_bitTest s b o, hencode, bitTest_effect s 2 _ b o rfl⟩
  · obtain ⟨-, hencode, -⟩ := encode_bitOperation b o
    obtain ⟨hpass, hrest⟩ := dst8_effect s 2 (if o = .atHL then 16 else 8) o (s.src8 o &&& ~~~(bitMask b))
      (t := bitReset b o (s.pass 2 _)) (by rw [bitReset, State.pass_src8])
    exact ⟨_, _, exec_bitReset s b o, hencode, hpass, fun i hi => getLsbD_and_not_bitMask _ b hi, hrest⟩
  · obtain ⟨-, -, hencode⟩ := encode_bitOperation b o
    obtain ⟨hpass, hrest⟩ := dst8_effect s 2 (if o = .atHL then 16 else 8) o (s.src8 o ||| bitMask b)
      (t := bitSet b o (s.pass 2 _)) (by rw [bitSet, State.pass_src8])
    exact ⟨_, _, exec_bitSet s b o, hencode, hpass, fun i _ => getLsbD_or_bitMask _ b i, hrest⟩

end Sys2Proof.Machine

/-! NOP, HALT, the interrupt enables, DAA and the flag instructions (45_misc R360, R361, R363 to R368): what an instruction that writes the
control bits or the flags alone leaves unchanged, what the start of a step does to a halt, and DAA's result as a number. -/

namespace Sys2Proof.Machine

/-! The control bits: IME, ei_pending and halted. -/

/-- An instruction that writes the control bits alone. -/
theorem control_effect (s : State) (len cost : Nat) (i e h : Bool) {t : State}
    (ht : t = { s.pass len cost with ime := i, eiPending := e, halted := h }) :
    Passed len cost s t ∧ SameRegs [] s t ∧ SameF s t ∧ SameSp s t ∧ SameDevices s t ∧ SameMemory s t := by
  subst ht
  have hdevices : SameDevices s { s.pass len cost with ime := i, eiPending := e, halted := h } := SameDevices.pass s len cost
  exact ⟨⟨rfl, rfl⟩, fun r _ => State.pass_reg s len cost r, rfl, rfl, hdevices, State.busRead_congr hdevices rfl⟩

/-- A step that fetches and whose instruction answers a next state (60_exceptions R400). -/
theorem step_of_fetch {s u w : State} (hready : s.ready) (hfetch : s.beginStep = .fetch u) (hexec : exec u.fetchInstr u = .next w) :
    step s = .next (w.promoteEi u.eiPending).advanceDevices := by
  rw [step_of_ready hready, hfetch]
  dsimp only
  rw [hexec]

/-- Settles O35: NOP is the pass alone, DI and EI are `control_effect`, and the promotion is `State.promoteEi_enables`. -/
theorem nopAndInterruptEnables : Obligations.NopAndInterruptEnables := by
  unfold Obligations.NopAndInterruptEnables
  refine ⟨fun s => ⟨_, exec_nop s, rfl, ⟨rfl, rfl⟩, OnlyRegs.withRegs s _ _ (fun r _ => State.pass_reg s 1 4 r) rfl rfl⟩,
    fun s => ?_, fun s => ?_, fun s u w t hready hfetch harmed hexec hkept hstep => ?_⟩
  · obtain ⟨hpass, hregs, hf, hsp, hdevices, hmemory⟩ := control_effect s 1 4 false false s.halted rfl
    exact ⟨_, exec_di s, rfl, hpass, rfl, rfl, hregs, hf, hsp, rfl, rfl, rfl, rfl, hdevices, hmemory⟩
  · obtain ⟨hpass, hregs, hf, hsp, hdevices, hmemory⟩ := control_effect s 1 4 s.ime true s.halted rfl
    exact ⟨_, exec_ei s, rfl, hpass, rfl, rfl, hregs, hf, hsp, rfl, rfl, rfl, rfl, hdevices, hmemory⟩
  · obtain ⟨hime, hei⟩ := w.promoteEi_enables u.eiPending
    rw [step_of_fetch hready hfetch hexec] at hstep
    cases hstep
    rw [State.advanceDevices_ime, State.advanceDevices_eiPending, hime, hei, harmed, hkept]
    exact ⟨Bool.or_true _, rfl⟩

/-! HALT and the halted engine. -/

theorem State.beginStep_of_waiting {s : State} (hwait : s.waiting) : s.beginStep = .wait { s with cycles := 4 } := by
  have hpending : s.pending = 0 := hwait.2
  rcases s.beginStep_cases with ⟨k, -, hk, -⟩ | ⟨k, -, hk, -⟩ | ⟨-, -, hbegin⟩ | ⟨-, hnot, -⟩
  · rw [(lowestSource_none _).2 hpending] at hk
    cases hk
  · rw [(lowestSource_none _).2 hpending] at hk
    cases hk
  · exact hbegin
  · exact absurd hwait hnot

/-- A halted engine does not fetch, so the state that a step fetches from is not halted (60_exceptions R401, R404). -/
theorem State.halted_of_beginStep_fetch {s u : State} (hfetch : s.beginStep = .fetch u) : u.halted = false := by
  rcases s.beginStep_cases with ⟨k, -, -, -, hbegin⟩ | ⟨k, -, -, -, hbegin⟩ | ⟨-, -, hbegin⟩ | ⟨-, -, hbegin⟩ <;>
    rw [hbegin] at hfetch <;> cases hfetch
  · obtain ⟨-, -, -, hhalted, -⟩ := State.takeInterrupt_spec { s with cycles := 0, halted := false } k
    exact hhalted
  · rfl

/-- The pending enabled requests as the rule's `IE & IF & 0x1F` (60_exceptions R401). -/
theorem State.pending_eq_ofNat (s : State) : s.pending = BitVec.ofNat 5 (s.ie.toNat &&& s.iflag.toNat &&& 0x1F) := by
  have hmask : BitVec.ofNat 5 0x1F = BitVec.allOnes 5 := rfl
  rw [BitVec.ofNat_and, BitVec.ofNat_and, hmask, BitVec.and_allOnes, BitVec.ofNat_toNat, BitVec.ofNat_toNat, BitVec.setWidth_eq,
    State.pending]

/-- Settles O36: the two cases of `haltOr`, the wait of a halted engine, and its end before a fetch. -/
theorem haltEntersOrFaults : Obligations.HaltEntersOrFaults := by
  unfold Obligations.HaltEntersOrFaults
  refine ⟨rfl, fun s henter => ?_, fun s hime hpending => ?_, fun s hready hhalted hpending => ?_,
    fun s u _ => State.halted_of_beginStep_fetch, State.pending_eq_ofNat⟩
  · obtain ⟨hpass, hregs, hf, hsp, hdevices, hmemory⟩ := control_effect s 1 4 s.ime s.eiPending true rfl
    have hexec : exec .halt s = .next { s.pass 1 4 with halted := true } := by
      rw [exec_halt, haltOr, if_neg]
      rintro ⟨hime, hpending⟩
      exact henter.elim (fun hset => absurd (hset.symm.trans hime) (by decide)) hpending
    exact ⟨_, hexec, hpass, rfl, hregs, hf, hsp, rfl, rfl, rfl, rfl, rfl, hdevices, hmemory⟩
  · rw [exec_halt, haltOr, if_pos ⟨hime, hpending⟩]
  · refine ⟨State.advanceDevices { s with cycles := 4 }, ?_, ?_, ?_, ?_, ?_⟩
    · rw [step_of_ready hready, State.beginStep_of_waiting ⟨hhalted, hpending⟩]
    · rw [State.advanceDevices_halted, hhalted]
    · rw [State.advanceDevices_cycles]
    · rw [State.advanceDevices_regs]
    · rw [State.advanceDevices_mem]

/-! DAA. -/

theorem daaHigh_eq (a : Byte) (c : Bool) : daaHigh a c = decide (c = true ∨ 0x99 < a.toNat) := by
  rw [daaHigh, Bool.decide_or, Bool.decide_eq_true]

theorem daaLow_eq (a : Byte) (h : Bool) : daaLow a h = decide (h = true ∨ 9 < a.toNat % 16) := by
  rw [daaLow, Bool.decide_or, Bool.decide_eq_true]

/-- DAA after an addition (45_misc R365). -/
theorem daaOut_false_res_toNat (a : Byte) (h c : Bool) :
    (daaOut a false h c).res.toNat =
      (a.toNat + (if c = true ∨ 0x99 < a.toNat then 0x60 else 0) + (if h = true ∨ 9 < a.toNat % 16 then 0x06 else 0)) % 256 := by
  have hres : (daaOut a false h c).res = a + (if daaHigh a c then 0x60 else 0) + (if daaLow a h then 0x06 else 0) := rfl
  rw [hres, daaHigh_eq, daaLow_eq]
  simp only [decide_eq_true_eq]
  split <;> split <;> bv_omega

/-- DAA after a subtraction (45_misc R365). -/
theorem daaOut_true_res_toNat (a : Byte) (h c : Bool) :
    (daaOut a true h c).res.toNat =
      (a.toNat + 512 - (if c = true then 0x60 else 0) - (if h = true then 0x06 else 0)) % 256 := by
  have hres : (daaOut a true h c).res = a - (if c then 0x60 else 0) - (if h then 0x06 else 0) := rfl
  rw [hres]
  split <;> split <;> bv_omega

/-- DAA's flags but C: Z from the result, N kept, H cleared (45_misc R365). -/
theorem daaOut_flags (a : Byte) (n h c : Bool) :
    (daaOut a n h c).z = decide ((daaOut a n h c).res.toNat = 0) ∧ (daaOut a n h c).n = n ∧ (daaOut a n h c).h = false := by
  cases n <;> exact ⟨decide_eq_decide.2 BitVec.toNat_inj.symm, rfl, rfl⟩

theorem daaOut_false_c (a : Byte) (h c : Bool) : (daaOut a false h c).c = decide (c = true ∨ 0x99 < a.toNat) := daaHigh_eq a c

/-- DAA writes A and the flags, by A and the flags N, H and C alone (45_misc R365). -/
theorem decimalAdjust_effect (s : State) (len cost : Nat) {t : State} (ht : t = decimalAdjust (s.pass len cost)) :
    Passed len cost s t ∧ t.reg .a = (daaOut (s.reg .a) s.flagN s.flagH s.flagC).res ∧
      FlagsAre t (decide ((t.reg .a).toNat = 0)) s.flagN false (daaOut (s.reg .a) s.flagN s.flagH s.flagC).c ∧
      OnlyRegsF [.a] s t := by
  rw [decimalAdjust, State.pass_reg, State.pass_flagN, State.pass_flagH, State.pass_flagC] at ht
  obtain ⟨hpass, hvalue, hflags, hframe⟩ := loadRegFlags_effect s len cost .a _ _ _ _ _ ht
  obtain ⟨hz, hn, hh⟩ := daaOut_flags (s.reg .a) s.flagN s.flagH s.flagC
  rw [hz, hn, hh, ← hvalue] at hflags
  exact ⟨hpass, hvalue, hflags, hframe⟩

/-- Settles O38: `decimalAdjust_effect`, with the result and the carry that DAA gives for N clear and for N set. -/
theorem decimalAdjust_byRule : Obligations.DecimalAdjust := by
  unfold Obligations.DecimalAdjust
  intro s
  obtain ⟨hpass, hvalue, hflags, hframe⟩ := decimalAdjust_effect s 1 4 rfl
  refine ⟨_, exec_daa s, rfl, hpass, hframe, fun hadd => ?_, fun hsub => ?_⟩
  · rw [hadd, daaOut_false_c] at hflags
    rw [hadd] at hvalue
    exact ⟨(congrArg BitVec.toNat hvalue).trans (daaOut_false_res_toNat ..), hflags⟩
  · rw [hsub] at hvalue hflags
    exact ⟨(congrArg BitVec.toNat hvalue).trans (daaOut_true_res_toNat ..), hflags⟩

/-! DAA after ADD and SUB on two decimal digits. -/

theorem toNat_bcd {x : Nat} (hx : x < 100) : (bcd x).toNat = 16 * (x / 10) + x % 10 :=
  (BitVec.toNat_ofNat ..).trans (Nat.mod_eq_of_lt (by omega))

/-- The binary sum needs 6 exactly where the units carry, and 0x60 exactly where the tens do. -/
theorem daaOut_add8_bcd {x y : Nat} (hx : x < 100) (hy : y < 100) {sum : AluOut} (hsum : sum = add8 (bcd x) (bcd y) false) :
    (daaOut sum.res sum.n sum.h sum.c).res = bcd ((x + y) % 100) ∧ (daaOut sum.res sum.n sum.h sum.c).c = decide (100 ≤ x + y) := by
  have hn : sum.n = false := congrArg AluOut.n hsum
  have hres : sum.res.toNat = (16 * (x / 10) + x % 10 + (16 * (y / 10) + y % 10)) % 256 := by
    rw [hsum, add8_res_toNat, toNat_bcd hx, toNat_bcd hy, Bool.toNat_false, Nat.add_zero]
  have hunits : (sum.h = true ∨ 9 < sum.res.toNat % 16) ↔ 10 ≤ x % 10 + y % 10 := by
    have hh : sum.h = decide (0xF < (bcd x).toNat % 16 + (bcd y).toNat % 16) := congrArg AluOut.h hsum
    rw [hh, decide_eq_true_eq, hres, toNat_bcd hx, toNat_bcd hy]
    omega
  have htens : (sum.c = true ∨ 0x99 < sum.res.toNat) ↔ 100 ≤ x + y := by
    have hc : sum.c = decide (0xFF < (bcd x).toNat + (bcd y).toNat) := congrArg AluOut.c hsum
    have habove : ∀ n, 0xFF < n ∨ 0x99 < n % 256 ↔ 0x99 < n := fun n => by omega
    rw [hc, decide_eq_true_eq, hres, toNat_bcd hx, toNat_bcd hy, habove]
    omega
  rw [hn, daaOut_false_c]
  refine ⟨BitVec.eq_of_toNat_eq ?_, decide_eq_decide.2 htens⟩
  rw [daaOut_false_res_toNat, toNat_bcd (Nat.mod_lt _ (by decide))]
  simp only [hunits, htens]
  rw [hres]
  split <;> split <;> omega

/-- The binary difference loses 6 exactly where the units borrow, and 0x60 exactly where the tens do. -/
theorem daaOut_sub8_bcd {x y : Nat} (hx : x < 100) (hy : y < 100) {diff : AluOut} (hdiff : diff = sub8 (bcd x) (bcd y) false) :
    (daaOut diff.res diff.n diff.h diff.c).res = bcd ((x + 100 - y) % 100) ∧
      (daaOut diff.res diff.n diff.h diff.c).c = decide (x < y) := by
  have hn : diff.n = true := congrArg AluOut.n hdiff
  have hres : diff.res.toNat = (16 * (x / 10) + x % 10 + 512 - (16 * (y / 10) + y % 10)) % 256 := by
    rw [hdiff, sub8_res_toNat, toNat_bcd hx, toNat_bcd hy, Bool.toNat_false, Nat.sub_zero]
  have hunits : diff.h = true ↔ x % 10 < y % 10 := by
    rw [hdiff, sub8_h, decide_eq_true_eq, toNat_bcd hx, toNat_bcd hy, Bool.toNat_false]
    omega
  have htens : diff.c = decide (x < y) := by
    have hc : diff.c = decide ((bcd x).toNat < (bcd y).toNat) := congrArg AluOut.c hdiff
    rw [hc, toNat_bcd hx, toNat_bcd hy]
    exact decide_eq_decide.2 (by omega)
  rw [hn]
  refine ⟨BitVec.eq_of_toNat_eq ?_, htens⟩
  rw [daaOut_true_res_toNat, toNat_bcd (Nat.mod_lt _ (by decide))]
  simp only [hunits, htens, decide_eq_true_eq]
  rw [hres]
  split <;> split <;> omega

/-- DAA after an operation on A and an immediate byte adjusts that operation's result by its flags. -/
theorem daa_after_aluImm (s : State) {op : AluOp} (hop : op ≠ .cp) (n : Byte) {out : AluOut}
    (hout : aluOut op (s.reg .a) n s.flagC = out) :
    ∃ t u, exec (Instr.aluImm op n) s = .next t ∧ exec .daa t = .next u ∧
      u.reg .a = (daaOut out.res out.n out.h out.c).res ∧ u.flagC = (daaOut out.res out.n out.h out.c).c := by
  obtain ⟨-, hvalue, ⟨-, hn, hh, hc, -⟩, -⟩ := loadRegFlags_effect s 2 8 .a (aluKept op (s.reg .a) n s.flagC) _ _ _ _
    (t := aluWith op n (s.pass 2 8)) (by rw [aluWith_eq, State.pass_reg, State.pass_flagC, State.setAluFlags])
  obtain ⟨-, hadjusted, ⟨-, -, -, hcarry, -⟩, -⟩ := decimalAdjust_effect (aluWith op n (s.pass 2 8)) 1 4 rfl
  rw [hvalue, hn, hh, hc, aluKept, if_neg hop, hout] at hadjusted hcarry
  exact ⟨_, _, exec_aluImm s op n, exec_daa _, hadjusted, hcarry⟩

/-- Settles O39: what DAA makes of the result and flags of ADD (`daaOut_add8_bcd`) and of SUB (`daaOut_sub8_bcd`). -/
theorem decimalArithmeticIsExact : Obligations.DecimalArithmeticIsExact := by
  unfold Obligations.DecimalArithmeticIsExact
  intro s x y hx
  constructor
  · obtain ⟨t, u, hadd, hdaa, hvalue, hcarry⟩ := daa_after_aluImm s (op := .add) (by decide) (bcd y.val) rfl
    obtain ⟨hdigits, hhundred⟩ := daaOut_add8_bcd x.isLt y.isLt rfl
    rw [hx] at hvalue hcarry
    exact ⟨t, u, hadd, hdaa, hvalue.trans hdigits, hcarry.trans hhundred⟩
  · obtain ⟨t, u, hsub, hdaa, hvalue, hcarry⟩ := daa_after_aluImm s (op := .sub) (by decide) (bcd y.val) rfl
    obtain ⟨hdigits, hborrow⟩ := daaOut_sub8_bcd x.isLt y.isLt rfl
    rw [hx] at hvalue hcarry
    exact ⟨t, u, hsub, hdaa, hvalue.trans hdigits, hcarry.trans hborrow⟩

/-! CPL, SCF and CCF. -/

/-- An instruction that writes the flags alone. -/
theorem flagsOnly_effect (s : State) (len cost : Nat) (z n h c : Bool) {t : State} (ht : t = (s.pass len cost).setFlags z n h c) :
    Passed len cost s t ∧ FlagsAre t z n h c ∧ OnlyRegsF [] s t := by
  subst ht
  exact ⟨⟨rfl, rfl⟩, FlagsAre.setFlags .., OnlyRegsF.withRegs s _ _ (fun r _ => by cases r <;> rfl) rfl⟩

/-- Settles O40: CPL writes A and the flags (`loadRegFlags_effect`), SCF and CCF the flags alone (`flagsOnly_effect`). -/
theorem complementAndCarryFlags : Obligations.ComplementAndCarryFlags := by
  unfold Obligations.ComplementAndCarryFlags
  refine ⟨fun s => ?_, fun s => ⟨_, exec_scf s, rfl, flagsOnly_effect s 1 4 s.flagZ false false true rfl⟩,
    fun s => ⟨_, exec_ccf s, rfl, flagsOnly_effect s 1 4 s.flagZ false false (!s.flagC) rfl⟩⟩
  obtain ⟨hpass, hvalue, hrest⟩ := loadRegFlags_effect s 1 4 .a (s.reg .a ^^^ 0xFF) s.flagZ true true s.flagC
    (t := complementA (s.pass 1 4)) (by rw [complementA, State.pass_reg, State.pass_flagZ, State.pass_flagC])
  have hones : (0xFF : Byte) = BitVec.allOnes 8 := rfl
  have hcomplement : (s.reg .a ^^^ 0xFF).toNat = 255 - (s.reg .a).toNat := by
    rw [hones, BitVec.xor_allOnes, BitVec.toNat_not]
  exact ⟨_, exec_cpl s, rfl, hpass, (congrArg BitVec.toNat hvalue).trans hcomplement, hrest⟩

end Sys2Proof.Machine

/-! The engine (60_exceptions R400 to R408, R480, R481): what an instruction can answer, what the start of a step answers, and from these
the cost of a step, its faults and the host's step and run. -/

namespace Sys2Proof.Machine

open Sys2Proof

/-! What an instruction answers, said once: its cost, or its fault. -/

/-- What an instruction adds its cost to, and whether an image is loaded, which it keeps (00_scope R11, 60_exceptions R485). -/
def State.costAndSlot (s : State) : Nat × Bool := (s.cycles, s.cart.isSome)

theorem State.busWrite_costAndSlot (s : State) (a : Word) (v : Byte) : (s.busWrite a v).costAndSlot = s.costAndSlot :=
  Prod.ext (State.busWrite_cycles ..) (State.busWrite_cart_isSome ..)

theorem State.push16_costAndSlot (s : State) (v : Word) : (s.push16 v).costAndSlot = s.costAndSlot :=
  Prod.ext (State.push16_cycles ..) (State.push16_cart_isSome ..)

theorem State.pop_costAndSlot (s : State) (q : StackReg) : (pop q s).costAndSlot = s.costAndSlot := by
  cases q <;> rfl

theorem State.aluWith_costAndSlot (s : State) (op : AluOp) (v : Byte) : (aluWith op v s).costAndSlot = s.costAndSlot := by
  cases op <;> rfl

/-- Everything `exec i s` can be: a next state that costs 1 to 6 times 4 T-cycles, or one of the faults of R405. -/
inductive ExecAnswer (i : Instr) (s : State) : Result → Prop where
  | next {w : State} (m : Nat) (hm : 1 ≤ m ∧ m ≤ 6) (hw : w.costAndSlot = (s.cycles + 4 * m, s.cart.isSome)) : ExecAnswer i s (.next w)
  | illegal {b : Byte} (hi : i.illegalByte = some b) : ExecAnswer i s (.fault (.illegalOpcode b s.regs.pc))
  | stop {n : Byte} (hi : i = .stop n) : ExecAnswer i s (.fault (.stop s.regs.pc))
  | haltBug (hi : i = .halt) (hime : s.ime = false) (hpending : s.pending ≠ 0) : ExecAnswer i s (.fault (.haltBug s.regs.pc))

theorem ExecAnswer.of_next {i : Instr} {s w : State} (m : Nat) (hexec : exec i s = .next w)
    (hw : w.costAndSlot = (s.cycles + 4 * m, s.cart.isSome)) (hm : 1 ≤ m ∧ m ≤ 6 := by decide) : ExecAnswer i s (exec i s) :=
  hexec ▸ .next m hm hw

/-- A conditional jump, call or return costs `m` times 4 T-cycles, and `k` times 4 more where it is taken (41_control R251 to R258). -/
theorem ExecAnswer.of_taken {i : Instr} {s w taken : State} {b : Bool} (m k : Nat)
    (hexec : exec i s = .next (if b then taken.addCycles (4 * k) else w)) (hw : w.costAndSlot = (s.cycles + 4 * m, s.cart.isSome))
    (htaken : taken.costAndSlot = w.costAndSlot) (hm : 1 ≤ m ∧ m + k ≤ 6 := by decide) : ExecAnswer i s (exec i s) := by
  obtain ⟨hcost, hslot⟩ := Prod.mk.inj (htaken.trans hw)
  rw [hexec]
  split
  · refine .next (m + k) (by omega) (Prod.ext ?_ hslot)
    show taken.cycles + 4 * k = s.cycles + 4 * (m + k)
    omega
  · exact .next m (by omega) hw

/-- Every instruction answers with its cost or its fault: the base costs of 40_load to 45_misc, family by family. -/
theorem exec_answer (i : Instr) (s : State) : ExecAnswer i s (exec i s) := by
  induction i using Instr.byFamily
  case ldRegReg dst r => exact .of_next 1 (exec_ldRegReg s dst r) rfl
  case ldRegImm dst n => exact .of_next 2 (exec_ldRegImm s dst n) rfl
  case ldRegAtHL dst => exact .of_next 2 (exec_ldRegAtHL s dst) rfl
  case ldAtHLReg r => exact .of_next 2 (exec_ldAtHLReg s r) (State.busWrite_costAndSlot ..)
  case ldAtHLImm n => exact .of_next 3 (exec_ldAtHLImm s n) (State.busWrite_costAndSlot ..)
  case ldAAtBC => exact .of_next 2 (exec_ldAAtBC s) rfl
  case ldAAtDE => exact .of_next 2 (exec_ldAAtDE s) rfl
  case ldAtBCA => exact .of_next 2 (exec_ldAtBCA s) (State.busWrite_costAndSlot ..)
  case ldAtDEA => exact .of_next 2 (exec_ldAtDEA s) (State.busWrite_costAndSlot ..)
  case ldAAbs nn => exact .of_next 4 (exec_ldAAbs s nn) rfl
  case ldAbsA nn => exact .of_next 4 (exec_ldAbsA s nn) (State.busWrite_costAndSlot ..)
  case ldhA n => exact .of_next 3 (exec_ldhA s n) rfl
  case ldhStoreA n => exact .of_next 3 (exec_ldhStoreA s n) (State.busWrite_costAndSlot ..)
  case ldAHighC => exact .of_next 2 (exec_ldAHighC s) rfl
  case ldHighCA => exact .of_next 2 (exec_ldHighCA s) (State.busWrite_costAndSlot ..)
  case ldAtHLIncA => exact .of_next 2 (exec_ldAtHLIncA s) (State.busWrite_costAndSlot ..)
  case ldAAtHLInc => exact .of_next 2 (exec_ldAAtHLInc s) rfl
  case ldAtHLDecA => exact .of_next 2 (exec_ldAtHLDecA s) (State.busWrite_costAndSlot ..)
  case ldAAtHLDec => exact .of_next 2 (exec_ldAAtHLDec s) rfl
  case ldPairImm p nn => exact .of_next 3 (exec_ldPairImm s p nn) rfl
  case ldAbsSP nn => exact .of_next 5 (exec_ldAbsSP s nn) ((State.busWrite_costAndSlot ..).trans (State.busWrite_costAndSlot ..))
  case ldSPHL => exact .of_next 2 (exec_ldSPHL s) rfl
  case ldHLSPPlus e => exact .of_next 3 (exec_ldHLSPPlus s e) rfl
  case push q => exact .of_next 4 (exec_push s q) (State.push16_costAndSlot ..)
  case pop q => exact .of_next 3 (exec_pop s q) (State.pop_costAndSlot ..)
  case jump nn => exact .of_next 4 (exec_jump s nn) rfl
  case jumpCond cc nn => exact .of_taken 3 1 (exec_jumpCond s cc nn) rfl rfl
  case jumpHL => exact .of_next 1 (exec_jumpHL s) rfl
  case jumpRel e => exact .of_next 3 (exec_jumpRel s e) rfl
  case jumpRelCond cc e => exact .of_taken 2 1 (exec_jumpRelCond s cc e) rfl rfl
  case call nn => exact .of_next 6 (exec_call s nn) (State.push16_costAndSlot ..)
  case callCond cc nn => exact .of_taken 3 3 (exec_callCond s cc nn) rfl (State.push16_costAndSlot ..)
  case ret => exact .of_next 4 (exec_ret s) rfl
  case retCond cc => exact .of_taken 2 3 (exec_retCond s cc) rfl rfl
  case reti => exact .of_next 4 (exec_reti s) rfl
  case rst y => exact .of_next 4 (exec_rst s y) (State.push16_costAndSlot ..)
  case incReg r => exact .of_next 1 (exec_incReg s r) rfl
  case decReg r => exact .of_next 1 (exec_decReg s r) rfl
  case incAtHL => exact .of_next 3 (exec_incAtHL s) (State.busWrite_costAndSlot ..)
  case decAtHL => exact .of_next 3 (exec_decAtHL s) (State.busWrite_costAndSlot ..)
  case incPair p => exact .of_next 2 (exec_incPair s p) rfl
  case decPair p => exact .of_next 2 (exec_decPair s p) rfl
  case alu op o =>
    cases o with
    | reg r => exact .of_next 1 (exec_alu s op (.reg r)) (State.aluWith_costAndSlot ..)
    | atHL => exact .of_next 2 (exec_alu s op .atHL) (State.aluWith_costAndSlot ..)
  case aluImm op n => exact .of_next 2 (exec_aluImm s op n) (State.aluWith_costAndSlot ..)
  case addHL p => exact .of_next 2 (exec_addHL s p) rfl
  case addSP e => exact .of_next 4 (exec_addSP s e) rfl
  case rlca => exact .of_next 1 (exec_rlca s) rfl
  case rrca => exact .of_next 1 (exec_rrca s) rfl
  case rla => exact .of_next 1 (exec_rla s) rfl
  case rra => exact .of_next 1 (exec_rra s) rfl
  case rot op o =>
    cases o with
    | reg r => exact .of_next 2 (exec_rot s op (.reg r)) rfl
    | atHL => exact .of_next 4 (exec_rot s op .atHL) (State.busWrite_costAndSlot ..)
  case bitTest b o =>
    cases o with
    | reg r => exact .of_next 2 (exec_bitTest s b (.reg r)) rfl
    | atHL => exact .of_next 3 (exec_bitTest s b .atHL) rfl
  case bitReset b o =>
    cases o with
    | reg r => exact .of_next 2 (exec_bitReset s b (.reg r)) rfl
    | atHL => exact .of_next 4 (exec_bitReset s b .atHL) (State.busWrite_costAndSlot ..)
  case bitSet b o =>
    cases o with
    | reg r => exact .of_next 2 (exec_bitSet s b (.reg r)) rfl
    | atHL => exact .of_next 4 (exec_bitSet s b .atHL) (State.busWrite_costAndSlot ..)
  case nop => exact .of_next 1 (exec_nop s) rfl
  case di => exact .of_next 1 (exec_di s) rfl
  case ei => exact .of_next 1 (exec_ei s) rfl
  case daa => exact .of_next 1 (exec_daa s) rfl
  case cpl => exact .of_next 1 (exec_cpl s) rfl
  case scf => exact .of_next 1 (exec_scf s) rfl
  case ccf => exact .of_next 1 (exec_ccf s) rfl
  case halt =>
    rw [exec_halt, haltOr]
    split
    · next h => exact .haltBug rfl h.1 h.2
    · exact .next 1 (by decide) rfl
  case stop n => exact exec_stop s n ▸ .stop rfl
  case illegal i b hb => exact exec_illegal s hb ▸ .illegal hb

/-- The cost of an instruction that completes (70_reset_and_hazards R520); it loads and drops no image. -/
theorem exec_cost {i : Instr} {s w : State} (hexec : exec i s = .next w) :
    ∃ m, 1 ≤ m ∧ m ≤ 6 ∧ w.cycles = s.cycles + 4 * m ∧ w.cart.isSome = s.cart.isSome := by
  have hanswer := exec_answer i s
  rw [hexec] at hanswer
  cases hanswer with
  | next m hm hw =>
    obtain ⟨hcost, hslot⟩ := Prod.mk.inj hw
    exact ⟨m, hm.1, hm.2, hcost, hslot⟩

/-! The start of a step: a service, a wait, or the fetch (60_exceptions R401, R402, R404). -/

/-- The state an engine step fetches from: a service's, or the machine's own with the halt ended. -/
theorem State.beginStep_fetch_cases {s u : State} (hfetch : s.beginStep = .fetch u) :
    (∃ k, s.ime = true ∧ lowestSource s.pending = some k ∧ s.pushHitsIE = false ∧
      u = State.takeInterrupt { s with cycles := 0, halted := false } k) ∨
    (¬ s.serviceDue ∧ ¬ s.waiting ∧ u = { s with cycles := 0, halted := false }) := by
  rcases s.beginStep_cases with ⟨k, -, -, -, hbegin⟩ | ⟨k, hime, hk, hsp, hbegin⟩ | ⟨-, -, hbegin⟩ | ⟨hnot, hrun, hbegin⟩ <;>
    rw [hbegin] at hfetch <;> cases hfetch
  · exact .inl ⟨k, hime, hk, hsp, rfl⟩
  · exact .inr ⟨hnot, hrun, rfl⟩

/-- A service charges 20 T-cycles before the instruction; the start of a step counts no total_cycles and loads no image
(60_exceptions R402). -/
theorem State.beginStep_fetch_cost {s u : State} (hfetch : s.beginStep = .fetch u) :
    (u.cycles = 0 ∨ u.cycles = 20) ∧ u.totalCycles = s.totalCycles ∧ u.cart.isSome = s.cart.isSome := by
  rcases State.beginStep_fetch_cases hfetch with ⟨k, -, -, -, rfl⟩ | ⟨-, -, rfl⟩
  · obtain ⟨-, -, -, -, -, hcycles, htotal, -, hslot, -⟩ := State.takeInterrupt_spec { s with cycles := 0, halted := false } k
    exact ⟨.inr hcycles, htotal, hslot⟩
  · exact ⟨.inl rfl, rfl, rfl⟩

/-- No instruction counts total_cycles (60_exceptions R400). -/
theorem exec_totalCycles {i : Instr} {s w : State} (hexec : exec i s = .next w) : w.totalCycles = s.totalCycles :=
  exec_keeps (f := (·.totalCycles)) ⟨by constructor <;> intros <;> rfl, fun _ _ _ _ _ _ => rfl⟩ i hexec

/-- Settles O11: a wait costs 4; a fetching step costs its instruction's 4 to 24 (`exec_cost`) and at most one service's 20. -/
theorem stepCostIsFourToFortyFour : Obligations.StepCostIsFourToFortyFour := by
  unfold Obligations.StepCostIsFourToFortyFour
  intro s t hstep
  obtain ⟨-, -, ⟨-, rfl⟩ | ⟨u, w, hfetch, hexec, rfl⟩⟩ := step_cases hstep
  · rw [State.advanceDevices_cycles, State.advanceDevices_totalCycles]
    exact ⟨Nat.le_refl 4, show 4 ≤ 44 by decide, Nat.mod_self 4, rfl⟩
  · obtain ⟨hstart, htotal, -⟩ := State.beginStep_fetch_cost hfetch
    obtain ⟨m, hm1, hm6, hcost, -⟩ := exec_cost hexec
    rw [State.advanceDevices_cycles, State.advanceDevices_totalCycles, State.promoteEi_cycles, State.promoteEi_totalCycles,
      exec_totalCycles hexec, htotal, hcost]
    omega

end Sys2Proof.Machine

/-! Fetch, service, wait and promotion (60_exceptions R400 to R404), and the faults of a step (R405, R485). -/

namespace Sys2Proof.Machine

open Sys2Proof

/-! The fetch. -/

/-- Decoding three bytes reads the instruction that the fetch reads from them (30_encoding R160, R161). -/
theorem eq_decodeBytes_of_decode {op n n2 : Byte} {i : Instr} {rest : List Byte} (hdecode : decode [op, n, n2] = .ok (i, rest)) :
    i = decodeBytes op n n2 := by
  rw [decode] at hdecode
  split at hdecode
  · cases hdecode
  · exact (Prod.mk.inj (Except.ok.inj hdecode)).1.symm

/-- A step that fetches and whose instruction faults (60_exceptions R400, R405). -/
theorem step_of_fetch_fault {s u : State} {r : Fault} (hready : s.ready) (hfetch : s.beginStep = .fetch u)
    (hexec : exec u.fetchInstr u = .fault r) : step s = .fault r := by
  rw [step_of_ready hready, hfetch]
  dsimp only
  rw [hexec]

/-- With no service due, an engine that does not wait fetches, its halt ended (60_exceptions R401, R404). -/
theorem State.beginStep_of_running {s : State} (hnot : ¬ s.serviceDue) (hrun : ¬ s.waiting) :
    s.beginStep = .fetch { s with cycles := 0, halted := false } := by
  have due : ∀ k, s.ime = true → lowestSource s.pending = some k → s.serviceDue := fun k hime hk =>
    ⟨hime, fun hzero => by rw [(lowestSource_none _).2 hzero] at hk; cases hk⟩
  rcases s.beginStep_cases with ⟨k, hime, hk, -⟩ | ⟨k, hime, hk, -⟩ | ⟨-, hwait, -⟩ | ⟨-, -, hbegin⟩
  · exact absurd (due k hime hk) hnot
  · exact absurd (due k hime hk) hnot
  · exact absurd hwait hrun
  · exact hbegin

/-- Settles O4: the three bytes decode to the instruction the fetch reads, and the step runs it. -/
theorem stepRunsDecodedInstruction : Obligations.StepRunsDecodedInstruction := by
  unfold Obligations.StepRunsDecodedInstruction
  refine ⟨fun s u i rest hready hfetch hdecode => ?_, fun s => State.beginStep_of_running⟩
  have hinstr : i = u.fetchInstr := eq_decodeBytes_of_decode hdecode
  rw [hinstr]
  exact ⟨fun w => step_of_fetch hready hfetch, fun r => step_of_fetch_fault hready hfetch⟩

/-! The service. -/

theorem State.serviceDue_iff (s : State) : s.serviceDue ↔ s.ime = true ∧ ∃ k, lowestSource s.pending = some k := by
  rw [← Option.isSome_iff_exists, Option.isSome_iff_ne_none, ne_eq, lowestSource_none]
  exact Iff.rfl

theorem State.pushHitsIE_iff (s : State) : s.pushHitsIE = true ↔ s.regs.sp = 0x0000 ∨ s.regs.sp = 0x0001 := by
  simp only [State.pushHitsIE, Bool.or_eq_true, decide_eq_true_eq]

/-- The start of a step faults exactly where a due service would push onto IE (60_exceptions R402). -/
theorem State.beginStep_fault_iff (s : State) (r : Fault) :
    s.beginStep = .fault r ↔ s.serviceDue ∧ (s.regs.sp = 0x0000 ∨ s.regs.sp = 0x0001) ∧ r = .servicePushIE s.regs.pc := by
  rw [s.serviceDue_iff, ← s.pushHitsIE_iff]
  rcases s.beginStep_cases with ⟨k, hime, hk, hsp, hbegin⟩ | ⟨k, -, -, hsp, hbegin⟩ | ⟨hnot, -, hbegin⟩ | ⟨hnot, -, hbegin⟩ <;>
    rw [hbegin]
  · rw [EngineBegin.fault.injEq]
    exact ⟨fun hr => ⟨⟨hime, k, hk⟩, hsp, hr.symm⟩, fun h => h.2.2.symm⟩
  · simp [hsp]
  · rw [s.serviceDue_iff] at hnot
    simp [hnot]
  · rw [s.serviceDue_iff] at hnot
    simp [hnot]

/-- With a source chosen and SP elsewhere than IE, the engine goes on from the service's state (60_exceptions R402). -/
theorem State.beginStep_of_service {s : State} {k : IrqSource} (hime : s.ime = true) (hk : lowestSource s.pending = some k)
    (hsp : ¬ (s.regs.sp = 0x0000 ∨ s.regs.sp = 0x0001)) :
    s.beginStep = .fetch (State.takeInterrupt { s with cycles := 0, halted := false } k) := by
  have hdue : s.serviceDue := s.serviceDue_iff.2 ⟨hime, k, hk⟩
  rcases s.beginStep_cases with ⟨k', -, -, hhit, -⟩ | ⟨k', -, hk', -, hbegin⟩ | ⟨hnot, -⟩ | ⟨hnot, -⟩
  · exact absurd (s.pushHitsIE_iff.1 hhit) hsp
  · rw [hk] at hk'
    cases hk'
    exact hbegin
  · exact absurd hdue hnot
  · exact absurd hdue hnot

theorem IrqSource.exists_of_bit (k : Fin 5) : ∃ src : IrqSource, src.bit = k.val := by
  fin_cases k
  exacts [⟨.vblank, rfl⟩, ⟨.lcdStatus, rfl⟩, ⟨.timer, rfl⟩, ⟨.serial, rfl⟩, ⟨.joypad, rfl⟩]

theorem State.pending_getLsbD (s : State) {j : Nat} (hj : j < 5) : s.pending.getLsbD j = (s.ie.getLsbD j && s.iflag.getLsbD j) := by
  rw [State.pending, BitVec.getLsbD_and, BitVec.getLsbD_setWidth, decide_eq_true hj, Bool.true_and]

/-- A service's pushes are those of the machine with the source's request cleared (60_exceptions R402). -/
theorem State.takeInterrupt_stored (s : State) (k : IrqSource) :
    StoredTwo (s.regs.sp - 1) (s.regs.pc.extractLsb' 8 8) (s.regs.sp - 2) (s.regs.pc.extractLsb' 0 8)
      { s with iflag := s.iflag &&& ~~~k.mask } (State.takeInterrupt { s with cycles := 0, halted := false } k) := by
  obtain ⟨-, -, -, -, -, -, -, hparams, -, hdevices⟩ := State.takeInterrupt_spec { s with cycles := 0, halted := false } k
  have hsame : SameDevices { s with iflag := s.iflag &&& ~~~k.mask }
      { s with cycles := 0, halted := false, iflag := s.iflag &&& ~~~k.mask } := ⟨rfl, rfl, rfl, rfl, rfl, rfl, rfl⟩
  exact StoredTwo.of_devices ((State.push16_devices _ _).trans ((hsame.push16 rfl rfl s.regs.pc).trans hdevices)) hparams

/-- Settles O6: the chosen source is the lowest pending enabled one; `State.beginStep_fault_iff` and `State.takeInterrupt_spec`. -/
theorem interruptServiceDispatches : Obligations.InterruptServiceDispatches := by
  unfold Obligations.InterruptServiceDispatches
  intro s k hready hime hset hlower
  obtain ⟨src, hbit⟩ := IrqSource.exists_of_bit k
  have hsource : lowestSource s.pending = some src := by
    rw [lowestSource_some, hbit, s.pending_getLsbD k.isLt, Bool.and_eq_true]
    refine ⟨hset, fun j hj => ?_⟩
    rw [s.pending_getLsbD (by omega), Bool.eq_false_iff, ne_eq, Bool.and_eq_true]
    exact hlower j hj
  refine ⟨fun hsp => ?_, fun hsp0 hsp1 => ?_⟩
  · rw [step_of_ready hready, (s.beginStep_fault_iff _).2 ⟨s.serviceDue_iff.2 ⟨hime, src, hsource⟩, hsp, rfl⟩]
  · obtain ⟨hregs, htime, hei, hhalted, hfault, hcycles, htotal, hparams, -, -⟩ :=
      State.takeInterrupt_spec { s with cycles := 0, halted := false } src
    refine ⟨_, State.beginStep_of_service hime hsource (not_or.2 ⟨hsp0, hsp1⟩), ?_, hcycles, htime, hei, hhalted, hfault, htotal,
      hparams, fun r _ => ?_, ?_, ?_, ?_⟩
    · rw [hregs, ← hbit]
      rfl
    · cases r <;> simp only [State.reg, hregs]
    · rw [SameF, hregs]
    · rw [hregs]
    · rw [← hbit]
      exact s.takeInterrupt_stored src

/-- Settles O7: each clause is the start of the step in its case, and `step_of_ready`. -/
theorem haltedWaitAndWakeUp : Obligations.HaltedWaitAndWakeUp := by
  unfold Obligations.HaltedWaitAndWakeUp
  refine ⟨fun s hready hwait => ?_, fun s hime hpending => ?_, fun s hhalted hpending => ?_, fun s u w => step_of_fetch,
    fun s u r => step_of_fetch_fault⟩
  · rw [step_of_ready hready, State.beginStep_of_waiting hwait]
  · refine State.beginStep_of_running (fun hdue => ?_) fun hwait => hpending hwait.2
    exact absurd (hdue.1.symm.trans hime) (by decide)
  · have hrun := State.beginStep_of_running (s := s) (fun hdue => hdue.2 hpending)
      fun hwait => absurd (hwait.1.symm.trans hhalted) (by decide)
    rw [hrun, ← hhalted]

/-- Settles O8: the promotion is `State.promoteEi_enables`; before it only a service, EI and DI write the two bits. -/
theorem interruptEnableIsDelayed : Obligations.InterruptEnableIsDelayed := by
  unfold Obligations.InterruptEnableIsDelayed
  refine ⟨fun s u w t hready hfetch hexec hstep => ?_, fun s => ⟨_, exec_ei s, rfl, rfl⟩, fun s => ⟨_, exec_di s, rfl, rfl⟩,
    fun s u hdue hfetch => ?_, fun s u hnot hfetch => ?_, fun s t hwait hstep => ?_⟩
  · obtain ⟨hime, hei⟩ := w.promoteEi_enables u.eiPending
    rw [step_of_fetch hready hfetch hexec] at hstep
    cases hstep
    rw [State.advanceDevices_ime, State.advanceDevices_eiPending, hime, hei]
    refine ⟨fun hu hw => by simp [hu, hw], fun hnot => ?_⟩
    cases hu : u.eiPending <;> cases hw : w.eiPending <;> simp [hu, hw] at hnot ⊢
  · rcases State.beginStep_fetch_cases hfetch with ⟨k, -, -, -, rfl⟩ | ⟨hnot, -⟩
    · obtain ⟨-, hime, hei, -⟩ := State.takeInterrupt_spec { s with cycles := 0, halted := false } k
      exact ⟨hime, hei⟩
    · exact absurd hdue hnot
  · rcases State.beginStep_fetch_cases hfetch with ⟨k, hime, hk, -, -⟩ | ⟨-, -, rfl⟩
    · exact absurd (s.serviceDue_iff.2 ⟨hime, k, hk⟩) hnot
    · exact ⟨rfl, rfl⟩
  · obtain ⟨-, -, ⟨-, rfl⟩ | ⟨u, w, hfetch, -, -⟩⟩ := step_cases hstep
    · exact ⟨State.advanceDevices_ime _, State.advanceDevices_eiPending _⟩
    · rw [State.beginStep_of_waiting hwait] at hfetch
      cases hfetch

/-! The faults of a step. -/

theorem exec_ne_refused (i : Instr) (s : State) (r : Refusal) : exec i s ≠ .refused r := fun hexec => by
  have hanswer := exec_answer i s
  rw [hexec] at hanswer
  cases hanswer

/-- An instruction faults for three causes, each with its record (45_misc R361, R362, R369). -/
theorem exec_fault_iff (i : Instr) (s : State) (r : Fault) :
    exec i s = .fault r ↔ (∃ b, i.illegalByte = some b ∧ r = .illegalOpcode b s.regs.pc) ∨ (∃ n, i = .stop n ∧ r = .stop s.regs.pc) ∨
      (i = .halt ∧ s.ime = false ∧ s.pending ≠ 0 ∧ r = .haltBug s.regs.pc) := by
  constructor
  · intro hexec
    have hanswer := exec_answer i s
    rw [hexec] at hanswer
    cases hanswer with
    | illegal hi => exact .inl ⟨_, hi, rfl⟩
    | stop hi => exact .inr (.inl ⟨_, hi, rfl⟩)
    | haltBug hi hime hpending => exact .inr (.inr ⟨hi, hime, hpending, rfl⟩)
  · rintro (⟨b, hi, rfl⟩ | ⟨n, rfl, rfl⟩ | ⟨rfl, hime, hpending, rfl⟩)
    · exact exec_illegal s hi
    · exact exec_stop s n
    · rw [exec_halt, haltOr, if_pos ⟨hime, hpending⟩]

/-- An instruction read from three bytes has the first of them as its first byte (30_encoding R150). -/
theorem head_of_decodeBytes {op n n2 b : Byte} {i : Instr} {tl : List Byte} (hi : decodeBytes op n n2 = i) (hb : encode i = b :: tl) :
    op = b := by
  obtain ⟨-, hencode⟩ := everyByteTripleIsOneInstruction op n n2
  rw [hi, hb] at hencode
  rcases opcodeLength_cases op with hl | hl | hl <;> rw [hl] at hencode <;> exact (List.cons.inj hencode).1.symm

theorem illegalByte_decodeBytes_iff (op n n2 b : Byte) : (decodeBytes op n n2).illegalByte = some b ↔ op ∈ illegalOpcodes ∧ b = op := by
  constructor
  · intro hi
    obtain ⟨hmem, hencode⟩ := Instr.of_illegalByte hi
    have hop := head_of_decodeBytes rfl hencode
    exact ⟨hop ▸ hmem, hop.symm⟩
  · rintro ⟨hmem, rfl⟩
    exact illegalByte_decodeBytes hmem n n2

theorem decodeBytes_stop_iff (op n n2 : Byte) : (∃ m, decodeBytes op n n2 = .stop m) ↔ op = 0x10 :=
  ⟨fun ⟨_, hi⟩ => head_of_decodeBytes hi rfl, fun hop => ⟨n, hop ▸ rfl⟩⟩

theorem decodeBytes_halt_iff (op n n2 : Byte) : decodeBytes op n n2 = .halt ↔ op = 0x76 :=
  ⟨fun hi => head_of_decodeBytes hi rfl, fun hop => hop ▸ rfl⟩

/-- The three causes by the byte fetched at pc. -/
theorem exec_fetchInstr_fault_iff (u : State) (r : Fault) :
    exec u.fetchInstr u = .fault r ↔
      (u.busRead u.regs.pc ∈ illegalOpcodes ∧ r = .illegalOpcode (u.busRead u.regs.pc) u.regs.pc) ∨
      (u.busRead u.regs.pc = 0x10 ∧ r = .stop u.regs.pc) ∨
      (u.busRead u.regs.pc = 0x76 ∧ u.ime = false ∧ u.pending ≠ 0 ∧ r = .haltBug u.regs.pc) := by
  rw [exec_fault_iff, State.fetchInstr, decodeBytes_halt_iff, exists_and_right, decodeBytes_stop_iff]
  simp only [illegalByte_decodeBytes_iff, and_assoc, exists_and_left, exists_eq_left]

theorem step_fault_iff {s : State} (hready : s.ready) (r : Fault) :
    step s = .fault r ↔ s.beginStep = .fault r ∨ ∃ u, s.beginStep = .fetch u ∧ exec u.fetchInstr u = .fault r := by
  rw [step_of_ready hready]
  cases hbegin : s.beginStep with
  | fault q => simp
  | wait t => simp
  | fetch u => cases hexec : exec u.fetchInstr u <;> simp [hexec]

theorem step_ne_refused {s : State} (hready : s.ready) (r : Refusal) : step s ≠ .refused r := by
  rw [step_of_ready hready]
  cases s.beginStep with
  | fault q => nofun
  | wait t => nofun
  | fetch u =>
    have hnot := exec_ne_refused u.fetchInstr u
    cases hexec : exec u.fetchInstr u <;> simp_all

theorem step_of_noCart {s : State} (hcart : s.cart = none) : step s = .refused .noImageLoaded := by
  rw [step, hcart]

theorem step_of_fault {s : State} {r : Fault} (hcart : s.cart ≠ none) (hfault : s.fault = some r) : step s = .fault r := by
  obtain ⟨c, hc⟩ := Option.ne_none_iff_exists'.1 hcart
  rw [step, hc, hfault]

/-- Settles O9: by the slot and the recorded fault; a machine that can step faults in its start or in its instruction. -/
theorem stepStopsOnlyForNamedCauses : Obligations.StepStopsOnlyForNamedCauses := by
  unfold Obligations.StepStopsOnlyForNamedCauses
  refine ⟨fun s r => ?_, fun s r => ?_⟩ <;> by_cases hcart : s.cart = none
  · simp only [step_of_noCart hcart, hcart, true_and, Host.Outcome.refused.injEq, eq_comm]
  · simp only [hcart, false_and, iff_false]
    cases hfault : s.fault with
    | none => exact step_ne_refused ⟨hcart, hfault⟩ r
    | some q => simp [step_of_fault hcart hfault]
  · simp [step_of_noCart hcart, hcart]
  · simp only [ne_eq, hcart, not_false_eq_true, true_and]
    cases hfault : s.fault with
    | none =>
      rw [step_fault_iff ⟨hcart, hfault⟩, s.beginStep_fault_iff]
      simp only [exec_fetchInstr_fault_iff, illegalOpcodes, reduceCtorEq, false_or, true_and]
      rfl
    | some q => simp [step_of_fault hcart hfault]

end Sys2Proof.Machine

/-! The host's step and run (60_exceptions R405, R480, R481), the host's operations and the invariant (70_reset_and_hazards R500, R503, R504). -/

namespace Sys2Proof.Machine

open Sys2Proof

/-! The state a fault leaves (60_exceptions R405). -/

theorem State.hostStep_of_next {s t : State} (hstep : step s = .next t) : s.hostStep = some (t, t.cycles) := by
  rw [State.hostStep, hstep]

theorem State.hostStep_of_fault {s : State} {r : Fault} (hready : s.ready) (hstep : step s = .fault r) :
    s.hostStep = some (s.faulted r, 0) := by
  rw [State.hostStep, hstep]
  exact if_pos hready.2

theorem State.hostStep_of_recorded {s : State} {r : Fault} (hcart : s.cart ≠ none) (hfault : s.fault = some r) :
    s.hostStep = some (s, 0) := by
  rw [State.hostStep, step_of_fault hcart hfault]
  exact if_neg (by simp [hfault])

theorem State.hostStep_of_noCart {s : State} (hcart : s.cart = none) : s.hostStep = none := by
  rw [State.hostStep, step_of_noCart hcart]

/-- A service that would push onto IE leaves the woken machine: some request is pending, so its halt has ended. -/
theorem State.faulted_of_service {s : State} {r : Fault} (hbegin : s.beginStep = .fault r) :
    s.faulted r = { s with halted := false, cycles := 0, fault := some r } := by
  obtain ⟨⟨-, hpending⟩, -, rfl⟩ := (s.beginStep_fault_iff r).1 hbegin
  rw [State.faulted, State.wake_eq, if_neg hpending]

/-- An illegal byte and STOP leave the state they were fetched in. -/
theorem State.faulted_of_fetch {s u : State} {r : Fault} (hfetch : s.beginStep = .fetch u)
    (hr : (∃ b a0, r = .illegalOpcode b a0) ∨ ∃ a0, r = .stop a0) :
    s.faulted r = { u with cycles := 0, fault := some r } := by
  unfold State.faulted
  rw [hfetch]
  rcases hr with ⟨b, a0, rfl⟩ | ⟨a0, rfl⟩ <;> rfl

/-- HALT's fault leaves pc after the byte. -/
theorem State.faulted_of_haltBug {s u : State} {a0 : Word} (hfetch : s.beginStep = .fetch u) :
    s.faulted (.haltBug a0) = { u.setPc (a0 + 1) with cycles := 0, fault := some (.haltBug a0) } := by
  unfold State.faulted
  rw [hfetch]

/-- The address that an instruction's fault records is its own. -/
theorem exec_fault_address {i : Instr} {u : State} {a0 : Word} {r : Fault} (hexec : exec i u = .fault r)
    (hr : (∃ b, r = .illegalOpcode b a0) ∨ r = .stop a0 ∨ r = .haltBug a0) : u.regs.pc = a0 := by
  rcases (exec_fault_iff i u r).1 hexec with ⟨b, -, rfl⟩ | ⟨n, -, rfl⟩ | ⟨-, -, -, rfl⟩ <;> simp_all

/-- No pass of `run`'s loop is taken with a fault recorded (60_exceptions R481). -/
theorem State.runLoop_of_fault {s : State} (n fuel consumed : Nat) (hfault : s.fault ≠ none) :
    State.runLoop n fuel consumed s = (s, consumed) := by
  cases fuel with
  | zero => rfl
  | succ fuel => exact if_neg fun h => hfault h.2

theorem State.hostRun_of_fault {s : State} (hcart : s.cart ≠ none) (hfault : s.fault ≠ none) (n : Nat) :
    s.hostRun n = some (s, 0) := by
  rw [State.hostRun, if_neg hcart, State.runLoop_of_fault n n 0 hfault]

/-- Settles O10: the state of each fault by the `faulted` lemma of its kind; with a fault recorded nothing moves. -/
theorem faultedStateIsTerminal : Obligations.FaultedStateIsTerminal := by
  unfold Obligations.FaultedStateIsTerminal
  refine ⟨fun s r hready hbegin => ?_, fun s u b a0 hready hfetch hexec => ?_, fun s u a0 hready hfetch hexec => ?_,
    fun s u a0 hready hfetch hexec => ?_, fun s r n hcart hfault => ?_⟩
  · have hstep : step s = .fault r := (step_fault_iff hready r).2 (.inl hbegin)
    exact ⟨_, State.hostStep_of_fault hready hstep, State.faulted_of_service hbegin⟩
  · rw [State.hostStep_of_fault hready (step_of_fetch_fault hready hfetch hexec), State.faulted_of_fetch hfetch (.inl ⟨b, a0, rfl⟩)]
    exact ⟨rfl, exec_fault_address hexec (.inl ⟨b, rfl⟩)⟩
  · rw [State.hostStep_of_fault hready (step_of_fetch_fault hready hfetch hexec), State.faulted_of_fetch hfetch (.inr ⟨a0, rfl⟩)]
    exact ⟨rfl, exec_fault_address hexec (.inr (.inl rfl))⟩
  · rw [State.hostStep_of_fault hready (step_of_fetch_fault hready hfetch hexec), State.faulted_of_haltBug hfetch]
    obtain ⟨-, htotal, -⟩ := State.beginStep_fetch_cost hfetch
    have hhalted : u.halted = false := State.halted_of_beginStep_fetch hfetch
    exact ⟨⟨_, rfl, rfl, hhalted, rfl, rfl, rfl, htotal, rfl, rfl, rfl, rfl, rfl, rfl, rfl⟩,
      exec_fault_address hexec (.inr (.inr rfl))⟩
  · have hnone : s.fault ≠ none := by simp [hfault]
    exact ⟨step_of_fault hcart hfault, State.hostStep_of_recorded hcart hfault, State.hostRun_of_fault hcart hnone n, rfl⟩

/-! `run(n)`: a chain of host steps (60_exceptions R481). -/

theorem ne_none_of_isSome_eq {α : Type} {a b : Option α} (h : a.isSome = b.isSome) (hb : b ≠ none) : a ≠ none := by
  rwa [← Option.isSome_iff_ne_none, h, Option.isSome_iff_ne_none]

/-- No step loads or drops an image (60_exceptions R485). -/
theorem step_cart {s t : State} (hstep : step s = .next t) : t.cart ≠ none := by
  obtain ⟨hcart, -, ⟨-, rfl⟩ | ⟨u, w, hfetch, hexec, rfl⟩⟩ := step_cases hstep
  · rwa [State.advanceDevices_cart]
  · obtain ⟨-, -, hslot⟩ := State.beginStep_fetch_cost hfetch
    obtain ⟨-, -, -, -, hkept⟩ := exec_cost hexec
    obtain ⟨-, -, -, -, -, -, hpromoted⟩ := w.promoteEi_devices u.eiPending
    rw [State.advanceDevices_cart, hpromoted]
    exact ne_none_of_isSome_eq (hkept.trans hslot) hcart

/-- A fault moves no count and drops no image (60_exceptions R405). -/
theorem State.faulted_keeps {s : State} {r : Fault} (hready : s.ready) (hstep : step s = .fault r) :
    (s.faulted r).totalCycles = s.totalCycles ∧ (s.faulted r).cart ≠ none ∧ (s.faulted r).fault = some r := by
  rcases (step_fault_iff hready r).1 hstep with hbegin | ⟨u, hfetch, hexec⟩
  · rw [State.faulted_of_service hbegin]
    exact ⟨rfl, hready.1, rfl⟩
  · obtain ⟨-, htotal, hslot⟩ := State.beginStep_fetch_cost hfetch
    have hcart : u.cart ≠ none := ne_none_of_isSome_eq hslot hready.1
    rcases (exec_fault_iff _ u r).1 hexec with ⟨b, -, rfl⟩ | ⟨n, -, rfl⟩ | ⟨-, -, -, rfl⟩
    · rw [State.faulted_of_fetch hfetch (.inl ⟨_, _, rfl⟩)]
      exact ⟨htotal, hcart, rfl⟩
    · rw [State.faulted_of_fetch hfetch (.inr ⟨_, rfl⟩)]
      exact ⟨htotal, hcart, rfl⟩
    · rw [State.faulted_of_haltBug hfetch]
      exact ⟨htotal, hcart, rfl⟩

/-- A host step of a machine that can step: it gives its cycles, at most 44, and at least 4 unless it records a fault. -/
theorem State.hostStep_cases {s : State} (hready : s.ready) : ∃ t c, s.hostStep = some (t, c) ∧ c ≤ 44 ∧ (t.fault = none → 4 ≤ c) ∧
    t.totalCycles = s.totalCycles + c ∧ t.cart ≠ none := by
  cases hstep : step s with
  | next t =>
    obtain ⟨hlow, hhigh, -, htotal⟩ := stepCostIsFourToFortyFour s t hstep
    exact ⟨t, t.cycles, State.hostStep_of_next hstep, hhigh, fun _ => hlow, htotal, step_cart hstep⟩
  | fault r =>
    obtain ⟨htotal, hcart, hfault⟩ := State.faulted_keeps hready hstep
    exact ⟨_, 0, State.hostStep_of_fault hready hstep, by decide, fun h => by simp [hfault] at h, htotal, hcart⟩
  | refused r => exact absurd hstep (step_ne_refused hready r)

/-- A host step on the machine and the count of cycles that `run` keeps. -/
def runPass (p : State × Nat) : State × Nat :=
  match p.1.hostStep with
  | some (t, c) => (t, p.2 + c)
  | none => p

/-- `run`'s loop goes on (60_exceptions R481). -/
def runsOn (n : Nat) (p : State × Nat) : Prop := p.2 < n ∧ p.1.fault = none

theorem runPass_spec {p : State × Nat} (hready : p.1.ready) : ∃ c, p.1.hostStep = some ((runPass p).1, c) ∧ (runPass p).2 = p.2 + c ∧
    c ≤ 44 ∧ ((runPass p).1.fault = none → 4 ≤ c) ∧ (runPass p).1.totalCycles = p.1.totalCycles + c ∧ (runPass p).1.cart ≠ none := by
  obtain ⟨t, c, hstep, hrest⟩ := State.hostStep_cases hready
  have hpass : runPass p = (t, p.2 + c) := by rw [runPass, hstep]
  rw [hpass]
  exact ⟨c, hstep, rfl, hrest⟩

theorem State.runLoop_of_runsOn {p : State × Nat} {n : Nat} (hcart : p.1.cart ≠ none) (hruns : runsOn n p) (fuel : Nat) :
    State.runLoop n (fuel + 1) p.2 p.1 = State.runLoop n fuel (runPass p).2 (runPass p).1 := by
  obtain ⟨c, hstep, hcount, -⟩ := runPass_spec ⟨hcart, hruns.2⟩
  have hcond : p.2 < n ∧ p.1.fault = none := hruns
  rw [State.runLoop, if_pos hcond, hstep, hcount]

theorem State.runLoop_of_done {p : State × Nat} {n : Nat} (hdone : ¬ runsOn n p) (fuel : Nat) :
    State.runLoop n fuel p.2 p.1 = p := by
  cases fuel with
  | zero => rfl
  | succ fuel => exact if_neg hdone

/-- With fuel for the rest of its budget, the loop iterates the pass while it runs on, and then stops: each pass takes a cycle or ends it. -/
theorem State.runLoop_eq_iterate {n fuel : Nat} {p : State × Nat} (hcart : p.1.cart ≠ none) (hfuel : p.1.fault = none → n ≤ p.2 + fuel) :
    ∃ m, (∀ i < m, runsOn n (runPass^[i] p)) ∧ ¬ runsOn n (runPass^[m] p) ∧ State.runLoop n fuel p.2 p.1 = runPass^[m] p := by
  induction fuel generalizing p with
  | zero =>
    have hdone : ¬ runsOn n p := fun hruns => absurd (hfuel hruns.2) (Nat.not_le.2 hruns.1)
    exact ⟨0, nofun, hdone, rfl⟩
  | succ fuel ih =>
    by_cases hruns : runsOn n p
    · obtain ⟨c, -, hcount, -, hlow, -, hcart'⟩ := runPass_spec ⟨hcart, hruns.2⟩
      obtain ⟨m, hbefore, hdone, hloop⟩ := ih hcart' fun hfault => by
        have hcost := hlow hfault
        have hbudget := hfuel hruns.2
        omega
      refine ⟨m + 1, fun i hi => ?_, hdone, (State.runLoop_of_runsOn hcart hruns fuel).trans hloop⟩
      cases i with
      | zero => exact hruns
      | succ i => exact hbefore i (Nat.lt_of_succ_lt_succ hi)
    · exact ⟨0, nofun, hruns, State.runLoop_of_done hruns _⟩

/-- Along the chain an image stays loaded, and the count is the growth of total_cycles. -/
theorem runPass_iterate_keeps {n : Nat} {p : State × Nat} (hcart : p.1.cart ≠ none) {m : Nat}
    (hbefore : ∀ i < m, runsOn n (runPass^[i] p)) :
    (runPass^[m] p).1.cart ≠ none ∧ (runPass^[m] p).1.totalCycles + p.2 = p.1.totalCycles + (runPass^[m] p).2 := by
  induction m with
  | zero => exact ⟨hcart, rfl⟩
  | succ m ih =>
    obtain ⟨hkept, htotal⟩ := ih fun i hi => hbefore i (by omega)
    obtain ⟨c, -, hcount, -, -, hgrown, hcart'⟩ := runPass_spec ⟨hkept, (hbefore m (by omega)).2⟩
    rw [Function.iterate_succ_apply']
    exact ⟨hcart', by omega⟩

theorem State.hostRun_eq_iterate {s : State} (hcart : s.cart ≠ none) (n : Nat) :
    ∃ m, (∀ i < m, runsOn n (runPass^[i] (s, 0))) ∧ ¬ runsOn n (runPass^[m] (s, 0)) ∧ s.hostRun n = some (runPass^[m] (s, 0)) := by
  obtain ⟨m, hbefore, hdone, hloop⟩ := State.runLoop_eq_iterate (n := n) (fuel := n) (p := (s, 0)) hcart fun _ => by simp
  exact ⟨m, hbefore, hdone, by rw [State.hostRun, if_neg hcart, ← hloop]⟩

theorem not_runsOn_iff (n : Nat) (p : State × Nat) : ¬ runsOn n p ↔ n ≤ p.2 ∨ p.1.fault ≠ none := by
  rw [runsOn, not_and_or, Nat.not_lt]

/-- A chain that ends has taken fewer than 44 cycles over its budget: before its last pass it was below it. -/
theorem runPass_iterate_lt {n : Nat} {p : State × Nat} (hcart : p.1.cart ≠ none) (hp : p.2 < n + 44) {m : Nat}
    (hbefore : ∀ i < m, runsOn n (runPass^[i] p)) : (runPass^[m] p).2 < n + 44 := by
  cases m with
  | zero => exact hp
  | succ m =>
    obtain ⟨hkept, -⟩ := runPass_iterate_keeps hcart fun i hi => hbefore i (Nat.lt_succ_of_lt hi)
    obtain ⟨hlow, hfault⟩ := hbefore m (Nat.lt_succ_self m)
    obtain ⟨c, -, hcount, hhigh, -⟩ := runPass_spec ⟨hkept, hfault⟩
    rw [Function.iterate_succ_apply', hcount]
    omega

/-- Settles O58: `run` iterates the pass (`State.hostRun_eq_iterate`), and each pass is a host step with its count. -/
theorem runConsumesItsBudget : Obligations.RunConsumesItsBudget := by
  unfold Obligations.RunConsumesItsBudget
  refine ⟨fun s t => State.hostStep_of_next, fun s n hcart => ?_, fun s n hcart => ?_, fun s n hcart => ?_⟩
  · obtain ⟨m, hbefore, hdone, hrun⟩ := State.hostRun_eq_iterate hcart n
    obtain ⟨hkept, htotal⟩ := runPass_iterate_keeps (p := (s, 0)) hcart hbefore
    refine ⟨_, _, hrun, fun hfault => ?_, runPass_iterate_lt (p := (s, 0)) hcart (by simp) hbefore, htotal, hkept, fun hstop => ?_⟩
    · exact ((not_runsOn_iff _ _).1 hdone).resolve_right (not_not.2 hfault)
    · have hnot : ¬ runsOn n (s, 0) := (not_runsOn_iff _ _).2 (hstop.imp_left Nat.le_of_eq)
      cases m with
      | zero => exact ⟨rfl, rfl⟩
      | succ m => exact absurd (hbefore 0 (Nat.succ_pos m)) hnot
  · obtain ⟨m, hbefore, hdone, hrun⟩ := State.hostRun_eq_iterate hcart n
    refine ⟨m, fun i => runPass^[i] (s, 0), rfl, fun i hi => ⟨(hbefore i hi).1, (hbefore i hi).2, ?_⟩, (not_runsOn_iff _ _).1 hdone, hrun⟩
    obtain ⟨hkept, -⟩ := runPass_iterate_keeps (p := (s, 0)) hcart fun j hj => hbefore j (lt_trans hj hi)
    obtain ⟨c, hstep, hcount, -⟩ := runPass_spec ⟨hkept, (hbefore i hi).2⟩
    rw [← Function.iterate_succ_apply' runPass i] at hstep hcount
    exact ⟨c, hstep, hcount⟩
  · rw [State.hostRun, if_pos hcart]
    exact ⟨State.hostStep_of_noCart hcart, rfl⟩

/-! The host's operations keep the machine well formed. -/

/-- The PPU of 70_reset_and_hazards R500 is in its ranges: line 0, mode OAM_SEARCH, a blank frame buffer. -/
theorem Ppu.Wf.reset : Ppu.reset.Wf where
  dots := by decide
  line := by decide
  vblank := by decide
  window := by decide
  drawn := nofun
  off := nofun
  sprites := ⟨Nat.zero_le 10, List.Pairwise.nil, nofun⟩
  frame := ⟨List.length_replicate, fun row hrow => List.eq_of_mem_replicate hrow ▸ List.length_replicate⟩

/-- The reset state around a well-formed store and cartridge (70_reset_and_hazards R500). -/
theorem State.Wf.resetWith {mem : Memory} {cart : Option Cart} (hmem : storeWf mem) (hcart : ∀ c, cart = some c → c.Wf) (params : Params) :
    (State.resetWith mem cart params).Wf where
  regs := show Regs.reset.f &&& 0x0F = 0 by decide
  timer := ⟨Timer.period_pos _, Nat.zero_le _⟩
  ppu := Ppu.Wf.reset
  mem := hmem
  cart := hcart

theorem Memory.wf_nil : Memory.wf [] := ⟨List.Pairwise.nil, nofun⟩

theorem storeWf_ramAtReset (p : Params) : storeWf (ramAtReset p) := by
  refine ⟨Memory.writeAll_wf Memory.wf_nil _, fun c hc => ?_⟩
  have hram : isRamAddress c.1 = true := by
    rcases Memory.mem_writeAll hc with hnil | hlisted
    · cases hnil
    · exact (List.mem_filter.1 hlisted).2
  rw [isStored, hram, Bool.true_or]

theorem Banking.reset_bankLo {k : Banking} {b : Mbc1} (h : k.reset = .mbc1 b) : b.bankLo ≠ 0 := by
  cases k with
  | romOnly => cases h
  | mbc1 b' =>
    cases h
    decide

theorem Cart.Wf.resetBanks {c : Cart} (h : c.Wf) : c.resetBanks.Wf :=
  ⟨h.length, h.image, h.ram, fun _ => Banking.reset_bankLo⟩

theorem initSaveRam_wf (params : Params) (size : Nat) :
    (initSaveRam params size).wf ∧ ∀ k ∈ initSaveRam params size, k.1 < size := by
  refine ⟨Memory.writeAll_wf Memory.wf_nil _, fun k hk => ?_⟩
  rcases Memory.mem_writeAll hk with hnil | hlisted
  · cases hnil
  · exact of_decide_eq_true (List.mem_filter.1 hlisted).2

theorem bankingOf_bankLo {code : Byte} {b : Mbc1} (h : bankingOf code = some (.mbc1 b)) : b.bankLo ≠ 0 := by
  unfold bankingOf at h
  split_ifs at h <;> cases h
  decide

/-- A fresh cartridge is well formed (20_memory R142, R143, R146). -/
theorem Cart.Wf.ofImage {params : Params} {image : List Byte} {c : Cart} (h : Cart.ofImage params image = some c) : c.Wf := by
  unfold Cart.ofImage at h
  split at h
  · cases h
  · next hlen =>
    split at h
    · cases h
    · next banking hbanking =>
      cases h
      refine ⟨Nat.not_lt.1 hlen, ⟨Memory.ofBytes_wf 0 image, fun k hk => ?_⟩, initSaveRam_wf _ _, fun b hb => ?_⟩
      · have hk' := Memory.mem_ofBytes hk
        show k.1 < image.length
        omega
      · exact bankingOf_bankLo (hbanking.trans (congrArg some hb))

/-- Reset keeps the machine well formed, whatever it held but its cartridge (70_reset_and_hazards R500). -/
theorem State.Wf.hostReset {s : State} (hcart : ∀ c, s.cart = some c → c.Wf) : s.hostReset.Wf := by
  refine State.Wf.resetWith (storeWf_ramAtReset s.params) (fun c hc => ?_) s.params
  obtain ⟨d, hd, rfl⟩ := Option.map_eq_some_iff.1 hc
  exact (hcart d hd).resetBanks

theorem State.Wf.hostLoad (s : State) (image : List Byte) : (s.hostLoad image).1.Wf := by
  unfold State.hostLoad
  split
  · next c hload =>
    exact State.Wf.hostReset fun d hd => Option.some.inj hd ▸ Cart.Wf.ofImage hload
  · exact State.Wf.hostReset nofun

theorem State.Wf.takeFrame {s : State} (hs : s.Wf) : s.takeFrame.1.Wf :=
  hs.mapPpu (fun p => { p with frameReady := false }) (hs.ppu.of_parts rfl rfl rfl rfl rfl rfl rfl rfl)

theorem State.Wf.setJoypad {s : State} (hs : s.Wf) (j : Joypad) : (s.setJoypad j).Wf := by
  unfold State.setJoypad
  split
  · exact hs
  · exact hs.of_parts hs.regs rfl rfl rfl rfl rfl

/-- A fault leaves a well-formed machine: the woken one, or the one it was fetched in (60_exceptions R405). -/
theorem State.Wf.faulted {s : State} (hs : s.Wf) (r : Fault) : (s.faulted r).Wf := by
  unfold State.faulted
  split
  · exact hs.of_parts hs.regs rfl rfl rfl rfl rfl
  · next hfetch =>
    have hu := hs.beginStep hfetch
    exact hu.of_parts hu.regs rfl rfl rfl rfl rfl
  · next hfetch =>
    have hu := hs.beginStep hfetch
    exact hu.of_parts hu.regs rfl rfl rfl rfl rfl
  · exact hs.of_parts hs.regs rfl rfl rfl rfl rfl

theorem State.Wf.hostStep {s t : State} {n : Nat} (hs : s.Wf) (hstep : s.hostStep = some (t, n)) : t.Wf := by
  unfold State.hostStep at hstep
  split at hstep
  · next hnext =>
    cases hstep
    exact stepKeepsWellFormedness s _ hs hnext
  · split at hstep <;> cases hstep
    · exact hs.faulted _
    · exact hs
  · cases hstep

/-- Settles O13: operation by operation; only reset and load touch the store or the cartridge, and a step is O12 or a fault. -/
theorem hostOperationsKeepWellFormedness : Obligations.HostOperationsKeepWellFormedness := by
  unfold Obligations.HostOperationsKeepWellFormedness
  intro s hs
  exact ⟨State.Wf.hostReset hs.cart, State.Wf.hostLoad s, fun k => ⟨hs.setJoypad _, hs.setJoypad _⟩,
    hs.takeFrame, fun t n => State.Wf.hostStep hs⟩

end Sys2Proof.Machine

/-! The advance of the devices by a step's cost (60_exceptions R400, R440, R450, R461). -/

namespace Sys2Proof.Machine

open Sys2Proof

theorem Ppu.lcdOn_eq (p : Ppu) : p.lcdOn = p.lcdc.getLsbD 7 := rfl

theorem State.ppuAdvance_of_off {s : State} (hoff : s.ppu.lcdc.getLsbD 7 = false) (c : Nat) : s.ppuAdvance c = s := by
  rw [State.ppuAdvance, Ppu.lcdOn_eq, hoff]
  rfl

theorem State.ppuAdvance_of_lt {s : State} (hon : s.ppu.lcdOn = true) {c : Nat} (hdots : s.ppu.dots + c < s.ppu.mode.budget) :
    s.ppuAdvance c = { s with ppu := { s.ppu with dots := s.ppu.dots + c } } := by
  rw [State.ppuAdvance_eq, if_pos hon, if_neg (Nat.not_le.2 hdots)]

/-- Where the dots reach the budget, the mode ends with the dots beyond it and the advance goes on from there. -/
theorem State.ppuAdvance_of_le {s : State} (hon : s.ppu.lcdOn = true) {c : Nat} (hdots : s.ppu.mode.budget ≤ s.ppu.dots + c) :
    s.ppuAdvance c = (State.modeEnd { s with ppu := { s.ppu with dots := s.ppu.dots + c - s.ppu.mode.budget } }).ppuAdvance 0 := by
  rw [State.ppuAdvance_eq, if_pos hon, if_pos hdots]

/-- The registers that only the CPU writes, one by one. -/
theorem Ppu.registers_inj {p q : Ppu} (h : p.registers = q.registers) :
    p.lcdc = q.lcdc ∧ p.statEnables = q.statEnables ∧ p.scy = q.scy ∧ p.scx = q.scx ∧ p.lyc = q.lyc ∧ p.dma = q.dma ∧ p.bgp = q.bgp ∧
      p.obp0 = q.obp0 ∧ p.obp1 = q.obp1 ∧ p.wy = q.wy ∧ p.wx = q.wx := by
  simp only [Ppu.registers, List.cons.injEq, and_true] at h
  obtain ⟨hlcdc, hstat, hrest⟩ := h
  have hnarrow := congrArg (BitVec.setWidth 4) hstat
  rw [BitVec.setWidth_setWidth_of_le _ (by decide), BitVec.setWidth_setWidth_of_le _ (by decide), BitVec.setWidth_eq,
    BitVec.setWidth_eq] at hnarrow
  exact ⟨hlcdc, hnarrow, hrest⟩

/-- The PPU's advance from a clear IF requests VBLANK and LCD_STATUS alone. -/
theorem State.ppuAdvance_requests (s : State) (c : Nat) {k : Nat} (hk : 2 ≤ k) :
    (State.ppuAdvance { s with iflag := 0 } c).iflag.getLsbD k = false := by
  rw [State.ppuAdvance_iflag _ c hk]
  exact BitVec.getLsbD_zero

/-- No request is dropped by the advance. -/
theorem State.advanceDevices_iflag_mono (s : State) {k : Nat} (hk : s.iflag.getLsbD k = true) : s.advanceDevices.iflag.getLsbD k = true := by
  rw [State.advanceDevices_iflag, BitVec.getLsbD_or, BitVec.getLsbD_or, hk, Bool.true_or, Bool.true_or]

theorem State.modeEnd_cases (s : State) :
    (s.ppu.mode = .oamSearch → s.modeEnd = s.endOamSearch) ∧ (s.ppu.mode = .dataTransfer → s.modeEnd = s.endDataTransfer) ∧
    (s.ppu.mode = .hblank → s.modeEnd = s.endHblank) ∧ (s.ppu.mode = .vblank → s.modeEnd = s.endVblankLine) := by
  unfold State.modeEnd
  refine ⟨fun hmode => ?_, fun hmode => ?_, fun hmode => ?_, fun hmode => ?_⟩ <;> rw [hmode]

/-- Settles O5: what the advance writes by its lemma for each part, what it leaves by `State.advanceDevices_keeps`, and the PPU's loop
as the rule writes it (`State.ppuAdvance_eq`). -/
theorem devicesAdvanceByTheCost : Obligations.DevicesAdvanceByTheCost := by
  unfold Obligations.DevicesAdvanceByTheCost
  refine ⟨fun s => ?_, State.advanceDevices_count, fun s c hoff => State.ppuAdvance_of_off hoff c, fun s c b hon hb => ?_,
    State.modeEnd_cases⟩
  · have hregisters := Ppu.registers_inj (s.ppuAdvance_registers s.cycles)
    rw [← State.advanceDevices_ppu] at hregisters
    exact ⟨s.advanceDevices_timer, rfl, s.advanceDevices_ppu, s.advanceDevices_iflag, fun k => s.ppuAdvance_requests s.cycles,
      fun k => s.advanceDevices_iflag_mono, s.advanceDevices_totalCycles, s.advanceDevices_cycles, s.advanceDevices_regs,
      s.advanceDevices_ime, s.advanceDevices_eiPending, s.advanceDevices_halted, s.advanceDevices_fault, s.advanceDevices_ie,
      s.advanceDevices_joy, s.advanceDevices_mem, s.advanceDevices_cart, s.advanceDevices_params, hregisters⟩
  · have hbudget : b = s.ppu.mode.budget := by
      rw [hb]
      cases s.ppu.mode <;> rfl
    rw [hbudget]
    exact ⟨State.ppuAdvance_of_lt hon, State.ppuAdvance_of_le hon⟩

end Sys2Proof.Machine

/-! The timer (60_exceptions R440 to R445; 10_state R42): the timer while nothing happens, a reload, a tick of TIMA, and runs of T-cycles made
of these. -/

namespace Sys2Proof.Machine

open Sys2Proof

/-! The divider (60_exceptions R441). -/

theorem Timer.advance_div16 (delay c : Nat) (t : Timer) : (Timer.advance delay c t).timer.div16.toNat = (t.div16.toNat + c) % 0x10000 := by
  induction c generalizing t with
  | zero => exact (Nat.mod_eq_of_lt t.div16.isLt).symm
  | succ c ih =>
    obtain ⟨htick, -, -⟩ := Timer.tick_frame delay t
    have hone : (t.div16 + 1).toNat = (t.div16.toNat + 1) % 0x10000 := BitVec.toNat_add ..
    refine (ih _).trans ?_
    rw [htick, hone]
    omega

theorem toNat_hiByte (w : Word) : (w.extractLsb' 8 8).toNat = w.toNat / 256 := by
  have hw := w.isLt
  rw [BitVec.extractLsb'_toNat, Nat.shiftRight_eq_div_pow]
  omega

/-- Settles O48: div16 counts every T-cycle (`Timer.advance_div16`); the accesses at FF04 by computation. -/
theorem dividerFreeRuns : Obligations.DividerFreeRuns := by
  unfold Obligations.DividerFreeRuns
  refine ⟨Timer.advance_div16, fun delay t => ?_, fun s => rfl, fun s v => rfl⟩
  have hw := t.div16.isLt
  rw [toNat_hiByte, toNat_hiByte, Timer.advance_div16]
  omega

/-! TIMA and its prescaler (60_exceptions R440, R442, R443). -/

/-- The timer `n` T-cycles later with no tick of TIMA and no reload in them. -/
def Timer.elapsed (t : Timer) (n : Nat) : Timer :=
  { t with div16 := t.div16 + BitVec.ofNat 16 n, tacc := if t.enabled then t.tacc + n else t.tacc, reloadCd := t.reloadCd - n }

/-- TIMA does not tick in the next `n` T-cycles: it is disabled, or the period is longer. -/
def Timer.noTick (t : Timer) (n : Nat) : Prop := t.enabled = true → t.tacc + n < t.period

/-- No reload completes in the next `n` T-cycles: none is pending, or its countdown is longer. -/
def Timer.noReload (t : Timer) (n : Nat) : Prop := t.reloadCd = 0 ∨ n < t.reloadCd

theorem Timer.noTick_elapsed {t : Timer} {m n : Nat} : (t.elapsed m).noTick n ↔ t.noTick (m + n) := by
  refine forall_congr' fun (henabled : t.enabled = true) => ?_
  show (if t.enabled then t.tacc + m else t.tacc) + n < t.period ↔ _
  rw [if_pos henabled, Nat.add_assoc]

theorem Timer.noTick.mono {t : Timer} {m n : Nat} (h : t.noTick n) (hle : m ≤ n) : t.noTick m := fun henabled =>
  lt_of_le_of_lt (Nat.add_le_add_left hle _) (h henabled)

theorem Timer.noTick_of_disabled {t : Timer} (h : t.enabled = false) (n : Nat) : t.noTick n := fun henabled =>
  absurd (henabled.symm.trans h) (by decide)

theorem Timer.elapsed_elapsed (t : Timer) (m n : Nat) : (t.elapsed m).elapsed n = t.elapsed (m + n) := by
  have hdiv : t.div16 + BitVec.ofNat 16 m + BitVec.ofNat 16 n = t.div16 + BitVec.ofNat 16 (m + n) := by
    rw [BitVec.add_assoc, BitVec.ofNat_add]
  have htacc : (if t.enabled then (if t.enabled then t.tacc + m else t.tacc) + n else (if t.enabled then t.tacc + m else t.tacc)) =
      if t.enabled then t.tacc + (m + n) else t.tacc := by
    split <;> omega
  unfold Timer.elapsed
  rw [Timer.mk.injEq]
  exact ⟨hdiv, rfl, rfl, rfl, htacc, Nat.sub_sub ..⟩

theorem Timer.elapsed_zero (t : Timer) : t.elapsed 0 = t := by
  have htacc : (if t.enabled then t.tacc + 0 else t.tacc) = t.tacc := ite_self _
  rw [Timer.elapsed, htacc, BitVec.add_zero]
  rfl

/-- The prescaler counts where TAC enables it, and ticks TIMA at the period. -/
theorem Timer.prescaleStep_of_noTick {t : Timer} (h : t.noTick 1) (delay : Nat) :
    Timer.prescaleStep delay t = ⟨{ t with tacc := if t.enabled then t.tacc + 1 else t.tacc }, false⟩ := by
  unfold Timer.prescaleStep
  split
  · next henabled => rw [if_pos (h henabled)]
  · rfl

theorem Timer.prescaleStep_of_tick {t : Timer} (henabled : t.enabled = true) (hperiod : t.tacc + 1 = t.period) (delay : Nat) :
    Timer.prescaleStep delay t = Timer.timaIncrement delay { t with tacc := 0 } := by
  rw [Timer.prescaleStep, if_pos henabled, if_neg (by omega), hperiod, Nat.sub_self]

theorem Timer.reloadStep_of_noReload {t : Timer} (h : t.noReload 1) : Timer.reloadStep t = ⟨{ t with reloadCd := t.reloadCd - 1 }, false⟩ := by
  unfold Timer.reloadStep
  split
  · next hzero =>
    rw [hzero, Nat.zero_sub, ← hzero]
  · next hpos =>
    have hlong : 1 < t.reloadCd := h.resolve_left hpos
    rw [if_neg (by omega)]

/-- A T-cycle in which nothing happens. -/
theorem Timer.tick_of_quiet {t : Timer} (htick : t.noTick 1) (hreload : t.noReload 1) (delay : Nat) :
    Timer.tick delay t = ⟨t.elapsed 1, false⟩ := by
  have hr := Timer.reloadStep_of_noReload (t := { t with div16 := t.div16 + 1 }) hreload
  have hp := Timer.prescaleStep_of_noTick (t := { t with div16 := t.div16 + 1, reloadCd := t.reloadCd - 1 }) htick delay
  rw [Timer.tick, hr, hp]
  rfl

/-- The T-cycle that ends a reload's countdown: TIMA takes TMA and TIMER is requested (60_exceptions R443). -/
theorem Timer.tick_of_reload {t : Timer} (htick : t.noTick 1) (hreload : t.reloadCd = 1) (delay : Nat) :
    Timer.tick delay t = ⟨{ t.elapsed 1 with tima := t.tma }, true⟩ := by
  have hr : Timer.reloadStep { t with div16 := t.div16 + 1 } = ⟨{ t with div16 := t.div16 + 1, reloadCd := 0, tima := t.tma }, true⟩ := by
    rw [Timer.reloadStep, if_neg (by rw [hreload]; decide), if_pos hreload]
  have hp := Timer.prescaleStep_of_noTick (t := { t with div16 := t.div16 + 1, reloadCd := 0, tima := t.tma }) htick delay
  rw [Timer.tick, hr, hp, Timer.elapsed, hreload]
  rfl

/-- The T-cycle that ends a period: TIMA is incremented (60_exceptions R440). -/
theorem Timer.tick_of_period {t : Timer} (henabled : t.enabled = true) (hperiod : t.tacc + 1 = t.period) (hreload : t.reloadCd = 0)
    (delay : Nat) : Timer.tick delay t = Timer.timaIncrement delay { t.elapsed 1 with tacc := 0 } := by
  have hr := Timer.reloadStep_of_noReload (t := { t with div16 := t.div16 + 1 }) (.inl hreload)
  have hp := Timer.prescaleStep_of_tick (t := { t with div16 := t.div16 + 1, reloadCd := t.reloadCd - 1 }) henabled hperiod delay
  rw [Timer.tick, hr, hp]
  rfl

/-! Runs of T-cycles. -/

theorem Timer.advance_succ (delay c : Nat) (t : Timer) : Timer.advance delay (c + 1) t =
    ⟨(Timer.advance delay c (Timer.tick delay t).timer).timer,
      (Timer.tick delay t).request || (Timer.advance delay c (Timer.tick delay t).timer).request⟩ := rfl

theorem Timer.advance_add (delay m n : Nat) (t : Timer) : Timer.advance delay (m + n) t =
    ⟨(Timer.advance delay n (Timer.advance delay m t).timer).timer,
      (Timer.advance delay m t).request || (Timer.advance delay n (Timer.advance delay m t).timer).request⟩ := by
  induction m generalizing t with
  | zero =>
    rw [Nat.zero_add]
    rfl
  | succ m ih =>
    rw [Nat.add_right_comm, Timer.advance_succ, ih, Timer.advance_succ, Bool.or_assoc]

theorem Timer.advance_one (delay : Nat) (t : Timer) : Timer.advance delay 1 t = Timer.tick delay t := by
  rw [Timer.advance_succ, Timer.advance, Bool.or_false]

/-- While nothing happens only the counters move. -/
theorem Timer.advance_of_quiet {t : Timer} {n : Nat} (htick : t.noTick n) (hreload : t.noReload n) (delay : Nat) :
    Timer.advance delay n t = ⟨t.elapsed n, false⟩ := by
  induction n with
  | zero =>
    rw [Timer.elapsed_zero]
    rfl
  | succ n ih =>
    have hlast : (t.elapsed n).noReload 1 := hreload.imp (fun hzero => show t.reloadCd - n = 0 by omega)
      fun hlong => show 1 < t.reloadCd - n by omega
    rw [Timer.advance_add, ih (htick.mono (Nat.le_succ n)) (hreload.imp_right Nat.lt_of_succ_lt), Timer.advance_one,
      Timer.tick_of_quiet (Timer.noTick_elapsed.2 htick) hlast, Timer.elapsed_elapsed]
    rfl

/-- The run that ends with a pending reload's completion (60_exceptions R443). -/
theorem Timer.advance_of_reload {t : Timer} (htick : t.noTick t.reloadCd) (hpending : 0 < t.reloadCd) (delay : Nat) :
    Timer.advance delay t.reloadCd t = ⟨{ t.elapsed t.reloadCd with tima := t.tma }, true⟩ := by
  obtain ⟨n, hn⟩ : ∃ n, t.reloadCd = n + 1 := ⟨t.reloadCd - 1, by omega⟩
  have hlast : (t.elapsed n).reloadCd = 1 := show t.reloadCd - n = 1 by omega
  rw [hn] at htick ⊢
  rw [Timer.advance_add, Timer.advance_of_quiet (htick.mono (Nat.le_succ n)) (.inr (by omega)), Timer.advance_one,
    Timer.tick_of_reload (Timer.noTick_elapsed.2 htick) hlast, Timer.elapsed_elapsed]
  rfl

/-- From the T-cycle before an overflow: for the delay TIMA reads 0 with no request, then TIMA holds TMA and TIMER is requested. -/
theorem Timer.advance_of_overflow {t : Timer} {d : Nat} (henabled : t.enabled = true) (hreload : t.reloadCd = 0) (htima : t.tima = 0xFF)
    (hperiod : t.tacc + 1 = t.period) (hd : d < t.period) :
    (∀ j < d, (Timer.advance d (1 + j) t).timer.tima = 0 ∧ (Timer.advance d (1 + j) t).request = false) ∧
    (Timer.advance d (1 + d) t).timer.tima = t.tma ∧ (Timer.advance d (1 + d) t).request = true ∧
    (Timer.advance d (1 + d) t).timer.reloadCd = 0 := by
  have htick := Timer.tick_of_period henabled hperiod hreload d
  rw [Timer.timaIncrement, if_pos (show (t.elapsed 1).tima = 0xFF from htima)] at htick
  rcases Nat.eq_zero_or_pos d with rfl | hpos
  · rw [if_pos rfl] at htick
    rw [Timer.advance_one, htick]
    exact ⟨nofun, rfl, rfl, show t.reloadCd - 1 = 0 by omega⟩
  · rw [if_neg (Nat.ne_of_gt hpos)] at htick
    generalize hu : ({ t.elapsed 1 with tacc := 0, tima := 0x00, reloadCd := d } : Timer) = u at htick
    have hstart : Timer.advance d 1 t = ⟨u, false⟩ := (Timer.advance_one d t).trans htick
    have hpending : u.reloadCd = d := by rw [← hu]
    have hnoTick : u.noTick d := by
      rw [← hu]
      exact fun _ => (Nat.zero_add d).symm ▸ hd
    have hend := Timer.advance_of_reload (t := u) (hpending.symm ▸ hnoTick) (hpending.symm ▸ hpos) d
    rw [hpending] at hend
    refine ⟨fun j hj => ?_, ?_⟩
    · rw [Timer.advance_add, hstart, Timer.advance_of_quiet (hnoTick.mono hj.le) (.inr (hpending.symm ▸ hj)), ← hu]
      exact ⟨rfl, rfl⟩
    · rw [Timer.advance_add, hstart, hend, ← hu]
      exact ⟨rfl, rfl, Nat.sub_self d⟩

/-- A period from an empty prescaler raises TIMA by one, short of an overflow. -/
theorem Timer.advance_period {t : Timer} (henabled : t.enabled = true) (hreload : t.reloadCd = 0) (htacc : t.tacc = 0)
    (htima : t.tima ≠ 0xFF) (d : Nat) :
    Timer.advance d t.period t = ⟨{ t.elapsed t.period with tacc := 0, tima := t.tima + 1 }, false⟩ := by
  have hpos := Timer.period_pos t
  obtain ⟨n, hn⟩ : ∃ n, t.period = n + 1 := ⟨t.period - 1, by omega⟩
  have hend : (t.elapsed n).tacc + 1 = t.period := by
    show (if t.enabled then t.tacc + n else t.tacc) + 1 = t.period
    rw [if_pos henabled, htacc, hn, Nat.zero_add]
  have hidle : (t.elapsed n).reloadCd = 0 := show t.reloadCd - n = 0 by omega
  have hstart := Timer.advance_of_quiet (t := t) (n := n) (fun _ => by omega) (.inl hreload) d
  have htick := Timer.tick_of_period (t := t.elapsed n) henabled hend hidle d
  rw [Timer.elapsed_elapsed, Timer.timaIncrement, if_neg (show (t.elapsed (n + 1)).tima ≠ 0xFF from htima)] at htick
  rw [hn, Timer.advance_add, hstart, Timer.advance_one, htick]
  rfl

theorem Timer.advance_periods (d k : Nat) {t : Timer} (henabled : t.enabled = true) (hreload : t.reloadCd = 0) (htacc : t.tacc = 0)
    (htima : t.tima.toNat + k ≤ 0xFF) :
    (Timer.advance d (t.period * k) t).timer.tima.toNat = t.tima.toNat + k ∧
    (Timer.advance d (t.period * k) t).timer.tacc = 0 ∧ (Timer.advance d (t.period * k) t).request = false := by
  induction k generalizing t with
  | zero => exact ⟨rfl, htacc, rfl⟩
  | succ k ih =>
    have hne : t.tima ≠ 0xFF := fun hmax => by
      rw [hmax] at htima
      exact absurd htima (by simp)
    have hnext : (t.tima + 1).toNat = t.tima.toNat + 1 := by
      rw [BitVec.toNat_add]
      exact Nat.mod_eq_of_lt (show t.tima.toNat + 1 < 256 by omega)
    have hfirst := Timer.advance_period henabled hreload htacc hne d
    obtain ⟨hraised, hempty, hquiet⟩ := ih (t := { t.elapsed t.period with tacc := 0, tima := t.tima + 1 }) henabled
      (show t.reloadCd - t.period = 0 by omega) rfl (show (t.tima + 1).toNat + k ≤ 0xFF by omega)
    rw [Nat.mul_succ, Nat.add_comm, Timer.advance_add, hfirst]
    refine ⟨hraised.trans ?_, hempty, hquiet⟩
    show (t.tima + 1).toNat + k = _
    omega

/-- While the timer is disabled its prescaler holds. -/
theorem Timer.advance_tacc_of_disabled (d c : Nat) {t : Timer} (hdisabled : t.enabled = false) :
    (Timer.advance d c t).timer.tacc = t.tacc := by
  induction c generalizing t with
  | zero => rfl
  | succ c ih =>
    obtain ⟨-, -, htac⟩ := Timer.tick_frame d t
    have htacc : (Timer.tick d t).timer.tacc = t.tacc := by
      obtain ⟨-, -, hkept, hcount, -⟩ := Timer.reloadStep_frame { t with div16 := t.div16 + 1 }
      have hoff : (Timer.reloadStep { t with div16 := t.div16 + 1 }).timer.enabled = false := by
        rw [Timer.enabled, hkept]
        exact hdisabled
      rw [Timer.tick, Timer.prescaleStep, if_neg (by rw [hoff]; decide)]
      exact hcount
    refine (ih ?_).trans htacc
    rw [Timer.enabled, htac]
    exact hdisabled

/-- A pending reload completes while the timer is disabled, and then nothing more happens (60_exceptions R443, R445). -/
theorem Timer.advance_of_disabled_reload (d : Nat) {t : Timer} (hdisabled : t.enabled = false) (hpending : 0 < t.reloadCd) {c : Nat}
    (hc : t.reloadCd ≤ c) : (Timer.advance d c t).timer.tima = t.tma ∧ (Timer.advance d c t).request = true ∧
      (Timer.advance d c t).timer.reloadCd = 0 := by
  obtain ⟨n, rfl⟩ := Nat.exists_eq_add_of_le hc
  have hfirst := Timer.advance_of_reload (Timer.noTick_of_disabled hdisabled _) hpending d
  have hrest := Timer.advance_of_quiet (t := { t.elapsed t.reloadCd with tima := t.tma }) (n := n)
    (Timer.noTick_of_disabled (t := { t.elapsed t.reloadCd with tima := t.tma }) hdisabled n) (.inl (Nat.sub_self _)) d
  rw [Timer.advance_add, hfirst, hrest]
  exact ⟨rfl, rfl, show t.reloadCd - t.reloadCd - n = 0 by omega⟩

/-- TAC's low bits select the period (60_exceptions R440). -/
theorem Timer.period_eq (t : Timer) : (t.tac.toNat % 4 = 0 → t.period = 1024) ∧ (t.tac.toNat % 4 = 1 → t.period = 16) ∧
    (t.tac.toNat % 4 = 2 → t.period = 64) ∧ (t.tac.toNat % 4 = 3 → t.period = 256) := by
  have hall : ∀ tac : BitVec 3, (tac.toNat % 4 = 0 → Timer.period { Timer.reset with tac := tac } = 1024) ∧
      (tac.toNat % 4 = 1 → Timer.period { Timer.reset with tac := tac } = 16) ∧
      (tac.toNat % 4 = 2 → Timer.period { Timer.reset with tac := tac } = 64) ∧
      (tac.toNat % 4 = 3 → Timer.period { Timer.reset with tac := tac } = 256) := by decide
  exact hall t.tac

/-- The timer's advance on the machine: the timer's own, and IF bit 2 where a T-cycle requested. -/
theorem State.timerAdvance_eq (s : State) (c : Nat) : s.timerAdvance c =
    { s with
      timer := (Timer.advance s.params.timerReloadDelay c s.timer).timer
      iflag := if (Timer.advance s.params.timerReloadDelay c s.timer).request then s.iflag ||| 0b00100#5 else s.iflag } := by
  unfold State.timerAdvance
  dsimp only
  split <;> rfl

/-- Settles O49: the quiet runs, the period, the overflow and the reload are each a run of T-cycles above. -/
theorem timerCountsItsPeriod : Obligations.TimerCountsItsPeriod := by
  unfold Obligations.TimerCountsItsPeriod
  refine ⟨fun t => ?_, fun d c t hdisabled hreload => ?_, fun d c t henabled hreload hshort => ?_,
    fun d k t henabled hreload htacc htima => Timer.advance_periods d k henabled hreload htacc htima,
    fun d t henabled hreload htima hperiod hd => Timer.advance_of_overflow henabled hreload htima hperiod hd,
    fun d t hdisabled hpending => ⟨fun j hj => ?_, fun c => Timer.advance_of_disabled_reload d hdisabled hpending,
      fun c => Timer.advance_tacc_of_disabled d c hdisabled⟩, State.timerAdvance_eq⟩
  · obtain ⟨h0, h1, h2, h3⟩ := t.period_eq
    exact ⟨h0, h1, h2, h3, rfl⟩
  · have hquiet := Timer.advance_of_quiet (Timer.noTick_of_disabled hdisabled c) (.inl hreload) d
    refine ⟨?_, Timer.advance_tacc_of_disabled d c hdisabled, ?_⟩ <;> rw [hquiet]
    rfl
  · rw [Timer.advance_of_quiet (fun _ => hshort) (.inl hreload) d]
    exact ⟨rfl, if_pos henabled, rfl⟩
  · rw [Timer.advance_of_quiet (Timer.noTick_of_disabled hdisabled j) (.inr hj) d]
    exact ⟨rfl, rfl, rfl⟩

end Sys2Proof.Machine

/-! The PPU's switch, its frame signal and the ends of its modes (60_exceptions R451, R455 to R458, R461, R483, R484). -/

namespace Sys2Proof.Machine

open Sys2Proof

/-! The LCD's switch (60_exceptions R461). -/

theorem Ppu.writeLcdc_off {p : Ppu} {v : Byte} (hon : p.lcdc.getLsbD 7 = true) (hv : v.getLsbD 7 = false) :
    p.writeLcdc v = { p with lcdc := v, ly := 0, dots := 0, mode := .hblank, wline := 0, winDrawn := false } := by
  rw [Ppu.writeLcdc, Ppu.lcdOn_eq, bitOf, hon, hv]
  rfl

theorem Ppu.writeLcdc_on {p : Ppu} {v : Byte} (hoff : p.lcdc.getLsbD 7 = false) (hv : v.getLsbD 7 = true) :
    p.writeLcdc v = { p with lcdc := v, ly := 0, dots := 0, mode := .oamSearch, wline := 0, winDrawn := false } := by
  rw [Ppu.writeLcdc, Ppu.lcdOn_eq, bitOf, hoff, hv]
  rfl

theorem State.busWrite_lcdc (s : State) (v : Byte) : s.busWrite 0xFF40 v = { s with ppu := s.ppu.writeLcdc v } := rfl

/-- STAT's low bits are the mode's number (10_state R45). -/
theorem Ppu.readStat_hblank {p : Ppu} (hmode : p.mode = .hblank) : p.readStat &&& 0x03 = 0 := by
  have hbits : ∀ (enables : BitVec 4) (b : Bool),
      ((0b1 : BitVec 1) ++ enables ++ BitVec.ofBool b ++ (0 : BitVec 2) : BitVec 8) &&& 0x03 = 0 := by decide
  rw [Ppu.readStat, hmode]
  exact hbits _ _

/-- Settles O51: a write to LCDC is `Ppu.writeLcdc`, whose three cases are the switch off, the switch on and the other bits. -/
theorem lcdSwitchStopsAndStarts : Obligations.LcdSwitchStopsAndStarts := by
  unfold Obligations.LcdSwitchStopsAndStarts
  refine ⟨fun s v hon hv => ?_, fun s v hoff hv => ?_, fun s v hv => ?_, fun s c hoff => State.ppuAdvance_of_off hoff c⟩
  · rw [State.busWrite_lcdc, Ppu.writeLcdc_off hon hv]
    exact ⟨rfl, rfl, Ppu.readStat_hblank rfl⟩
  · rw [State.busWrite_lcdc, Ppu.writeLcdc_on hoff hv]
  · rw [State.busWrite_lcdc, Ppu.writeLcdc_of_same hv]

/-! The requests of a mode's end (60_exceptions R420, R457, R458). -/

theorem State.request_getLsbD (s : State) (src : IrqSource) (k : Nat) :
    (s.request src).iflag.getLsbD k = (s.iflag.getLsbD k || decide (k = src.bit)) := by
  have hmask : src.mask.getLsbD k = decide (k = src.bit) := by
    by_cases hk : k < 5
    · have hall : ∀ j : Fin 5, src.mask.getLsbD j.val = decide (j.val = src.bit) := by cases src <;> decide
      exact hall ⟨k, hk⟩
    · rw [BitVec.getLsbD_of_ge _ _ (Nat.not_lt.1 hk)]
      have hbit : src.bit < 5 := by cases src <;> decide
      exact (decide_eq_false (by omega)).symm
  rw [← hmask]
  exact BitVec.getLsbD_or

/-- An enabled event requests LCD_STATUS, bit 1 of IF, and no other bit. -/
theorem State.requestStat_getLsbD (s : State) (b k : Nat) :
    (s.requestStat b).iflag.getLsbD k = (s.iflag.getLsbD k || (decide (k = 1) && s.ppu.statEnables.getLsbD b)) := by
  unfold State.requestStat
  split
  · next henabled =>
    rw [State.request_getLsbD, henabled, Bool.and_true]
    rfl
  · next hoff => rw [Bool.eq_false_of_not_eq_true hoff, Bool.and_false, Bool.or_false]

theorem State.lycCheck_getLsbD (s : State) (k : Nat) :
    s.lycCheck.iflag.getLsbD k =
      (s.iflag.getLsbD k || (decide (k = 1) && (decide (s.ppu.ly = s.ppu.lyc) && s.ppu.statEnables.getLsbD 3))) := by
  unfold State.lycCheck
  split
  · next heq => rw [State.requestStat_getLsbD, decide_eq_true heq, Bool.true_and]
  · next hne => rw [decide_eq_false hne, Bool.false_and, Bool.and_false, Bool.or_false]

/-! The ends of the modes, the PPU and IF apart (60_exceptions R455, R456). -/

/-- The end of HBLANK in both its cases: VBLANK begins at line 144. -/
theorem State.endHblank_ppu (s : State) : s.endHblank.ppu =
    { s.ppu.nextLine with
      mode := if s.ppu.ly + 1 = 144 then .vblank else .oamSearch
      frameReady := s.ppu.frameReady || decide (s.ppu.ly + 1 = 144) } := by
  have hly : (s.mapPpu Ppu.nextLine).lycCheck.ppu.ly = s.ppu.ly + 1 := by rw [State.lycCheck_ppu]; rfl
  unfold State.endHblank
  dsimp only
  rw [hly]
  split
  · next h144 =>
    simp only [State.requestStat_ppu, State.mapPpu_ppu, State.request_ppu, State.setMode_ppu, State.lycCheck_ppu, h144, decide_true,
      Bool.or_true]
  · next h144 =>
    simp only [State.requestStat_ppu, State.setMode_ppu, State.lycCheck_ppu, State.mapPpu_ppu, h144, decide_false, Bool.or_false]
    rfl

theorem State.endHblank_getLsbD (s : State) (k : Nat) : s.endHblank.iflag.getLsbD k =
    (s.iflag.getLsbD k || (decide (k = 1) && (decide (s.ppu.ly + 1 = s.ppu.lyc) && s.ppu.statEnables.getLsbD 3)) ||
      (decide (k = 0) && decide (s.ppu.ly + 1 = 144)) ||
      (decide (k = 1) && if s.ppu.ly + 1 = 144 then s.ppu.statEnables.getLsbD 1 else s.ppu.statEnables.getLsbD 2)) := by
  have hppu : (s.mapPpu Ppu.nextLine).lycCheck.ppu = s.ppu.nextLine := State.lycCheck_ppu _
  have hlyc : (s.mapPpu Ppu.nextLine).lycCheck.iflag.getLsbD k =
      (s.iflag.getLsbD k || (decide (k = 1) && (decide (s.ppu.ly + 1 = s.ppu.lyc) && s.ppu.statEnables.getLsbD 3))) :=
    State.lycCheck_getLsbD _ k
  unfold State.endHblank
  dsimp only
  rw [congrArg Ppu.ly hppu]
  by_cases h144 : s.ppu.ly + 1 = 144
  · rw [if_pos (show s.ppu.nextLine.ly = 144 from h144), State.requestStat_getLsbD, State.mapPpu_iflag, State.request_getLsbD,
      State.setMode_iflag, hlyc, State.mapPpu_ppu, State.request_ppu, State.setMode_ppu, hppu, decide_eq_true h144, Bool.and_true,
      if_pos h144]
    rfl
  · rw [if_neg (show ¬ s.ppu.nextLine.ly = 144 from h144), State.requestStat_getLsbD, State.setMode_iflag, hlyc, State.setMode_ppu, hppu,
      decide_eq_false h144, Bool.and_false, Bool.or_false, if_neg h144]
    rfl

/-- LY at the end of a VBLANK line: the frame starts again after line 153. -/
theorem toNat_ly_succ {ly : Byte} (hly : ly.toNat ≤ 153) : (ly + 1).toNat = ly.toNat + 1 := by
  rw [BitVec.toNat_add]
  exact Nat.mod_eq_of_lt (show ly.toNat + 1 < 256 by omega)

section
variable {s : State}

/-- The end of line 153 starts the frame again; the LY = LYC event is line 0's, after the OAM_SEARCH event (60_exceptions R456). -/
theorem State.endVblankLine_of_last (hly : s.ppu.ly = 153) : s.endVblankLine =
    ((s.mapPpu fun p => { p with ly := 0, wline := 0, mode := .oamSearch }).requestStat 2).lycCheck := by
  have hlast : 153 < (s.ppu.ly + 1).toNat := by rw [hly]; decide
  exact if_pos hlast

theorem State.endVblankLine_of_lt (hly : s.ppu.ly.toNat ≤ 153) (hne : s.ppu.ly ≠ 153) : s.endVblankLine =
    (s.mapPpu fun p => { p with ly := p.ly + 1 }).lycCheck := by
  have hlt : s.ppu.ly.toNat ≠ 153 := fun heq => hne (BitVec.eq_of_toNat_eq heq)
  have hmore : ¬ 153 < (s.ppu.ly + 1).toNat := by
    rw [toNat_ly_succ hly]
    omega
  exact if_neg hmore

end

/-- The end of a VBLANK line in both its cases. -/
theorem State.endVblankLine_ppu {s : State} (hly : s.ppu.ly.toNat ≤ 153) : s.endVblankLine.ppu =
    { s.ppu with
      ly := if s.ppu.ly = 153 then 0 else s.ppu.ly + 1
      wline := if s.ppu.ly = 153 then 0 else s.ppu.wline
      mode := if s.ppu.ly = 153 then .oamSearch else s.ppu.mode } := by
  by_cases hlast : s.ppu.ly = 153
  · rw [State.endVblankLine_of_last hlast, State.lycCheck_ppu, State.requestStat_ppu, State.mapPpu_ppu, if_pos hlast, if_pos hlast,
      if_pos hlast]
  · rw [State.endVblankLine_of_lt hly hlast, State.lycCheck_ppu, State.mapPpu_ppu, if_neg hlast, if_neg hlast, if_neg hlast]

theorem State.endVblankLine_getLsbD {s : State} (hly : s.ppu.ly.toNat ≤ 153) (k : Nat) : s.endVblankLine.iflag.getLsbD k =
    (s.iflag.getLsbD k || (decide (k = 1) && ((decide (s.endVblankLine.ppu.ly = s.ppu.lyc) && s.ppu.statEnables.getLsbD 3) ||
      (decide (s.ppu.ly = 153) && s.ppu.statEnables.getLsbD 2)))) := by
  rw [State.endVblankLine_ppu hly]
  by_cases hlast : s.ppu.ly = 153
  · rw [State.endVblankLine_of_last hlast, State.lycCheck_getLsbD, State.requestStat_getLsbD, State.requestStat_ppu, State.mapPpu_iflag,
      State.mapPpu_ppu]
    simp only [hlast, if_true, decide_true, Bool.true_and]
    rw [Bool.or_assoc, ← Bool.and_or_distrib_left, Bool.or_comm (s.ppu.statEnables.getLsbD 2)]
  · rw [State.endVblankLine_of_lt hly hlast, State.lycCheck_getLsbD, State.mapPpu_iflag, State.mapPpu_ppu]
    simp only [hlast, if_false, decide_false, Bool.false_and, Bool.or_false]

theorem State.endDataTransfer_ppu (s : State) : s.endDataTransfer.ppu =
    { s.ppu with
      fb := s.ppu.fb.set s.ppu.ly.toNat s.renderedLine, winDrawn := s.ppu.winDrawn || s.ppu.windowOnLine, mode := .hblank
      freeDraws := s.ppu.freeDraws + 1 } := by
  rw [State.endDataTransfer, State.requestStat_ppu, State.mapPpu_ppu]

theorem State.endDataTransfer_getLsbD (s : State) (k : Nat) : s.endDataTransfer.iflag.getLsbD k =
    (s.iflag.getLsbD k || (decide (k = 1) && s.ppu.statEnables.getLsbD 0)) := by
  rw [State.endDataTransfer, State.requestStat_getLsbD, State.mapPpu_iflag, State.mapPpu_ppu]

/-- Settles O53: each mode's end by what it leaves of the PPU and by the bits of IF it sets. -/
theorem lineEndsAndStatusRequests : Obligations.LineEndsAndStatusRequests := by
  unfold Obligations.LineEndsAndStatusRequests
  refine ⟨fun s => ?_, fun s hly => ?_, fun s => ?_, fun s => ⟨rfl, rfl⟩⟩
  · simp only [State.endHblank_ppu, State.endHblank_getLsbD]
    refine ⟨rfl, rfl, rfl, trivial, trivial, by simp, by simp, fun k hk => ?_⟩
    rw [decide_eq_false (by omega : k ≠ 1), decide_eq_false (by omega : k ≠ 0)]
    simp only [Bool.false_and, Bool.or_false]
  · simp only [State.endVblankLine_getLsbD hly, decide_true, Bool.true_and]
    rw [State.endVblankLine_ppu hly]
    refine ⟨rfl, rfl, rfl, rfl, (Bool.or_assoc ..).symm, fun k hk => ?_⟩
    rw [decide_eq_false hk, Bool.false_and, Bool.or_false]
  · simp only [State.endDataTransfer_ppu, State.endDataTransfer_getLsbD]
    refine ⟨trivial, by simp, fun k hk => ?_⟩
    rw [decide_eq_false hk, Bool.false_and, Bool.or_false]

/-! The frame signal and the frame buffer (60_exceptions R460, R483, R484). -/

/-- A buffer of rows of one width, joined: row `y`'s column `x` stands at `y * w + x`. -/
theorem getElem?_flatten_of_width {α : Type} {w : Nat} {rows : List (List α)} (hw : ∀ row ∈ rows, row.length = w) {x y : Nat} {row : List α}
    (hx : x < w) (hrow : rows[y]? = some row) : rows.flatten[y * w + x]? = row[x]? := by
  induction rows generalizing y with
  | nil => cases hrow
  | cons first rest ih =>
    have hfirst : first.length = w := hw first (List.mem_cons_self ..)
    rw [List.flatten_cons]
    cases y with
    | zero =>
      cases hrow
      rw [Nat.zero_mul, Nat.zero_add, List.getElem?_append_left (hfirst.symm ▸ hx)]
    | succ y =>
      rw [List.getElem?_append_right (by rw [hfirst, Nat.succ_mul]; omega), hfirst,
        show (y + 1) * w + x - w = y * w + x by rw [Nat.succ_mul]; omega]
      exact ih (fun row hrow => hw row (List.mem_cons_of_mem _ hrow)) hrow

theorem length_flatten_of_width {α : Type} {w : Nat} {rows : List (List α)} (hw : ∀ row ∈ rows, row.length = w) :
    rows.flatten.length = rows.length * w := by
  rw [List.length_flatten, List.map_congr_left hw, List.map_const', List.sum_replicate, smul_eq_mul]

/-- Settles O57: the signal by computation, the buffer by its rows' width. -/
theorem frameSignalAndBuffer : Obligations.FrameSignalAndBuffer := by
  unfold Obligations.FrameSignalAndBuffer
  refine ⟨fun s => ⟨rfl, rfl, rfl⟩, fun s hfb => ⟨?_, fun x y row hx hrow => ?_, fun f i => List.getElem?_map ..⟩, fun s => ?_⟩
  · rw [State.readFb, length_flatten_of_width hfb.2, hfb.1]
  · exact getElem?_flatten_of_width hfb.2 hx hrow
  · rw [State.endHblank_ppu]

end Sys2Proof.Machine

/-! The OAM search (60_exceptions R451). -/

namespace Sys2Proof.Machine

open Sys2Proof

/-- The first `n` numbers with a property: a number with it is among them exactly where fewer than `n` below it have it. -/
theorem mem_take_filter_range {q : Nat → Bool} {n m i : Nat} (hi : i < m) :
    i ∈ ((List.range m).filter q).take n ↔ q i = true ∧ ((List.range i).filter q).length < n := by
  have hsplit : List.range m = List.range i ++ i :: (List.range (m - i - 1)).map (fun j => i + 1 + j) := by
    obtain ⟨k, rfl⟩ := Nat.exists_eq_add_of_lt hi
    rw [Nat.add_assoc, List.range_add, List.range_succ_eq_map, List.map_cons, List.map_map, show i + (k + 1) - i - 1 = k by omega]
    exact congrArg (fun l => List.range i ++ i :: l) (List.map_congr_left fun j _ => by simp; omega)
  have hnotBefore : i ∉ (List.range i).filter q := fun hmem => Nat.lt_irrefl i (List.mem_range.1 (List.mem_of_mem_filter hmem))
  by_cases hq : q i = true
  · rw [hsplit, List.filter_append, List.filter_cons_of_pos hq]
    refine ⟨fun hmem => ⟨hq, ?_⟩, fun h => ?_⟩
    · by_contra hmany
      rw [List.take_append_of_le_length (Nat.not_lt.1 hmany)] at hmem
      exact hnotBefore (List.mem_of_mem_take hmem)
    · rw [List.take_append, List.mem_append]
      obtain ⟨k, hk⟩ : ∃ k, n - ((List.range i).filter q).length = k + 1 := ⟨n - ((List.range i).filter q).length - 1, by omega⟩
      rw [hk, List.take_succ_cons]
      exact .inr (List.mem_cons_self ..)
  · exact iff_of_false (fun hmem => hq (List.mem_filter.1 (List.mem_of_mem_take hmem)).2) fun h => hq h.1

theorem State.oamEntry_injective (s : State) : Function.Injective s.oamEntry := fun _ _ h => congrArg Sprite.index h

theorem State.visibleSprites_eq (s : State) :
    s.visibleSprites = (((List.range 40).filter fun i => s.ppu.spriteVisible (s.oamEntry i)).take 10).map s.oamEntry := by
  rw [State.visibleSprites, List.filter_map, List.map_take]
  rfl

theorem State.oamEntry_mem_oamSearch (s : State) {i : Nat} (hi : i < 40) : s.oamEntry i ∈ s.oamSearch ↔
    s.ppu.spriteVisible (s.oamEntry i) = true ∧ ((List.range i).filter fun j => s.ppu.spriteVisible (s.oamEntry j)).length < 10 := by
  rw [State.oamSearch, mem_sortSprites, s.visibleSprites_eq, List.mem_map_of_injective s.oamEntry_injective, mem_take_filter_range hi]

theorem State.exists_of_mem_oamSearch (s : State) {e : Sprite} (he : e ∈ s.oamSearch) : ∃ i < 40, e = s.oamEntry i := by
  rw [State.oamSearch, mem_sortSprites, s.visibleSprites_eq] at he
  obtain ⟨i, hi, rfl⟩ := List.mem_map.1 he
  exact ⟨i, List.mem_range.1 (List.mem_of_mem_filter (List.mem_of_mem_take hi)), rfl⟩

/-- The rule's own inequalities, on integers: an entry's top line is `sy - 16`. -/
theorem Ppu.spriteVisible_iff (p : Ppu) (e : Sprite) : p.spriteVisible e = true ↔ (e.y.toNat : Int) - 16 ≤ p.ly.toNat ∧
    (p.ly.toNat : Int) < (e.y.toNat : Int) - 16 + (if p.lcdc.getLsbD 2 then 16 else 8) ∧ e.x ≠ 0 ∧ e.x.toNat < 168 := by
  have hheight : ((if p.lcdc.getLsbD 2 then 16 else 8 : Int)) = (p.spriteHeight : Int) := by
    rw [Ppu.spriteHeight, bitOf]
    split <;> rfl
  rw [hheight]
  simp only [Ppu.spriteVisible, Bool.and_eq_true, decide_eq_true_eq, and_assoc]
  exact and_congr (by omega) (and_congr (by omega) Iff.rfl)

/-- Settles O52: the sort keeps the first ten visible entries and puts them in order (`State.oamSearch_wf`). -/
theorem oamSearchKeepsTenSprites : Obligations.OamSearchKeepsTenSprites := by
  unfold Obligations.OamSearchKeepsTenSprites
  intro s
  obtain ⟨hlength, hsorted, -⟩ := s.oamSearch_wf
  exact ⟨rfl, fun e => s.exists_of_mem_oamSearch, fun i => ⟨rfl, rfl, rfl, rfl, rfl⟩, fun i => s.oamEntry_mem_oamSearch,
    s.ppu.spriteVisible_iff, hlength, hsorted.imp fun h => (Sprite.before_iff _ _).1 h⟩

end Sys2Proof.Machine

/-! The PPU's place in the frame (60_exceptions R450, R455, R456, R459): the position at which a mode starts, what the end of a mode does to
it, and the advance by any number of T-cycles. -/

namespace Sys2Proof.Machine

open Sys2Proof

/-- The T-cycle of its line at which a mode starts (60_exceptions R459). -/
def PpuMode.lineStart : PpuMode → Nat
  | .oamSearch => 0
  | .dataTransfer => 80
  | .hblank => 252
  | .vblank => 0

/-- The T-cycle of the frame at which the current mode of the current line started. -/
def Ppu.modeStart (p : Ppu) : Nat := p.ly.toNat * 456 + p.mode.lineStart

theorem Ppu.modeStart_of {p : Ppu} {ly : Byte} {m : PpuMode} {k : Nat} (hly : p.ly = ly) (hmode : p.mode = m) (hk : m.lineStart = k) :
    p.modeStart = ly.toNat * 456 + k := by
  rw [Ppu.modeStart, hly, hmode, hk]

theorem Ppu.framePos_eq (p : Ppu) : p.framePos = p.modeStart + p.dots := by
  unfold Ppu.framePos Ppu.modeStart Ppu.linePos
  cases p.mode <;> simp only [PpuMode.lineStart] <;> omega

/-- The VBLANKs of a run: line 144 starts at T-cycle 65664 of every frame, and `(x + 4560) / 70224` of these starts lie up to `x`. -/
theorem exists_vblank_iff (a b : Nat) :
    (∃ m, a < 65664 + 70224 * m ∧ 65664 + 70224 * m ≤ b) ↔ (a + 4560) / 70224 < (b + 4560) / 70224 := by
  constructor
  · rintro ⟨m, ha, hb⟩
    omega
  · intro h
    exact ⟨(b + 4560) / 70224 - 1, by omega, by omega⟩

/-- Where the end of a mode leaves the frame: the next mode starts a budget later, and after line 153 at 0; line 144 starts a VBLANK. -/
structure FrameMoves (s t : State) : Prop where
  start : t.ppu.modeStart = s.ppu.modeStart + s.ppu.mode.budget ∨
    (t.ppu.modeStart = 0 ∧ s.ppu.modeStart + s.ppu.mode.budget = 70224)
  ready : t.ppu.frameReady = (s.ppu.frameReady || decide (s.ppu.modeStart + s.ppu.mode.budget = 65664))
  vblank : t.iflag.getLsbD 0 = (s.iflag.getLsbD 0 || decide (s.ppu.modeStart + s.ppu.mode.budget = 65664))

/-- The end of OAM_SEARCH or DATA_TRANSFER stays in its line and requests no VBLANK. -/
theorem FrameMoves.of_sameLine {s t : State} (hstart : t.ppu.modeStart = s.ppu.modeStart + s.ppu.mode.budget)
    (hinside : s.ppu.modeStart + s.ppu.mode.budget ≠ 65664) (hready : t.ppu.frameReady = s.ppu.frameReady)
    (hvblank : t.iflag.getLsbD 0 = s.iflag.getLsbD 0) : FrameMoves s t := by
  refine ⟨.inl hstart, ?_, ?_⟩ <;> rw [decide_eq_false hinside, Bool.or_false]
  · exact hready
  · exact hvblank

theorem State.endOamSearch_frame {s : State} (h : s.ppu.Shape) (hmode : s.ppu.mode = .oamSearch) : FrameMoves s s.endOamSearch := by
  have hline : ¬ 144 ≤ s.ppu.ly.toNat := by rw [← h.vblank, hmode]; decide
  have hstart : s.ppu.modeStart = s.ppu.ly.toNat * 456 + 0 := Ppu.modeStart_of rfl hmode rfl
  have hnext : s.endOamSearch.ppu.modeStart = s.ppu.ly.toNat * 456 + 80 := Ppu.modeStart_of rfl rfl rfl
  have hbudget : s.ppu.mode.budget = 80 := by rw [hmode]; rfl
  exact .of_sameLine (by omega) (by omega) rfl rfl

theorem State.endDataTransfer_frame {s : State} (h : s.ppu.Shape) (hmode : s.ppu.mode = .dataTransfer) :
    FrameMoves s s.endDataTransfer := by
  have hline : ¬ 144 ≤ s.ppu.ly.toNat := by rw [← h.vblank, hmode]; decide
  have hppu := s.endDataTransfer_ppu
  have hstart : s.ppu.modeStart = s.ppu.ly.toNat * 456 + 80 := Ppu.modeStart_of rfl hmode rfl
  have hnext : s.endDataTransfer.ppu.modeStart = s.ppu.ly.toNat * 456 + 252 :=
    Ppu.modeStart_of (by rw [hppu]) (by rw [hppu]) rfl
  have hbudget : s.ppu.mode.budget = 172 := by rw [hmode]; rfl
  have hsame := s.endDataTransfer_getLsbD 0
  exact .of_sameLine (by omega) (by omega) (by rw [hppu]) (hsame.trans (Bool.or_false _))

theorem State.endHblank_frame {s : State} (h : s.ppu.Shape) (hmode : s.ppu.mode = .hblank) : FrameMoves s s.endHblank := by
  have hnext : (s.ppu.ly + 1).toNat = s.ppu.ly.toNat + 1 := toNat_ly_succ h.line
  have hstart : s.ppu.modeStart = s.ppu.ly.toNat * 456 + 252 := Ppu.modeStart_of rfl hmode rfl
  have hbudget : s.ppu.mode.budget = 204 := by rw [hmode]; rfl
  have hvblank : s.ppu.ly + 1 = 144 ↔ s.ppu.modeStart + s.ppu.mode.budget = 65664 := by
    rw [← BitVec.toNat_inj, hnext]
    show s.ppu.ly.toNat + 1 = 144 ↔ _
    omega
  have hppu := s.endHblank_ppu
  have hnextStart : s.endHblank.ppu.modeStart = (s.ppu.ly + 1).toNat * 456 + 0 :=
    Ppu.modeStart_of (congrArg Ppu.ly hppu) (congrArg Ppu.mode hppu) (by split <;> rfl)
  refine ⟨.inl (by omega), ?_, ?_⟩
  · rw [State.endHblank_ppu]
    exact congrArg (s.ppu.frameReady || ·) (decide_eq_decide.2 hvblank)
  · rw [State.endHblank_getLsbD]
    simpa using congrArg (s.iflag.getLsbD 0 || ·) (decide_eq_decide.2 hvblank)

theorem State.endVblankLine_frame {s : State} (h : s.ppu.Shape) (hmode : s.ppu.mode = .vblank) : FrameMoves s s.endVblankLine := by
  have hline : 144 ≤ s.ppu.ly.toNat := h.vblank.1 hmode
  have hstart : s.ppu.modeStart = s.ppu.ly.toNat * 456 + 0 := Ppu.modeStart_of rfl hmode rfl
  have hbudget : s.ppu.mode.budget = 456 := by rw [hmode]; rfl
  have hinside : s.ppu.modeStart + s.ppu.mode.budget ≠ 65664 := by omega
  have hsame := State.endVblankLine_getLsbD h.line 0
  have hppu := State.endVblankLine_ppu h.line
  have hready : s.endVblankLine.ppu.frameReady = s.ppu.frameReady := by rw [hppu]
  by_cases hlast : s.ppu.ly = 153
  · have hline : s.ppu.ly.toNat = 153 := congrArg BitVec.toNat hlast
    have hnext : s.endVblankLine.ppu.modeStart = (0 : Byte).toNat * 456 + 0 :=
      Ppu.modeStart_of ((congrArg Ppu.ly hppu).trans (if_pos hlast)) ((congrArg Ppu.mode hppu).trans (if_pos hlast)) rfl
    refine ⟨.inr ⟨hnext, by omega⟩, ?_, ?_⟩ <;> rw [decide_eq_false hinside, Bool.or_false]
    · exact hready
    · exact hsame.trans (Bool.or_false _)
  · have hsucc := toNat_ly_succ h.line
    have hnext : s.endVblankLine.ppu.modeStart = (s.ppu.ly + 1).toNat * 456 + 0 :=
      Ppu.modeStart_of ((congrArg Ppu.ly hppu).trans (if_neg hlast)) ((congrArg Ppu.mode hppu).trans (if_neg hlast))
        (by rw [hmode]; rfl)
    exact .of_sameLine (by omega) hinside hready (hsame.trans (Bool.or_false _))

theorem State.modeEnd_frame {s : State} (h : s.ppu.Shape) : FrameMoves s s.modeEnd := by
  obtain ⟨hoam, hdata, hhblank, hvblank⟩ := s.modeEnd_cases
  cases hmode : s.ppu.mode with
  | oamSearch => exact hoam hmode ▸ State.endOamSearch_frame h hmode
  | dataTransfer => exact hdata hmode ▸ State.endDataTransfer_frame h hmode
  | hblank => exact hhblank hmode ▸ State.endHblank_frame h hmode
  | vblank => exact hvblank hmode ▸ State.endVblankLine_frame h hmode

/-- The advance by `n` T-cycles from the start of a mode, in position, frame-ready signal and VBLANK request. -/
structure FrameAdvances (s t : State) (n : Nat) : Prop where
  position : ∃ m, t.ppu.framePos + 70224 * m = s.ppu.modeStart + n
  ready : t.ppu.frameReady = true ↔
    s.ppu.frameReady = true ∨ (s.ppu.modeStart + 4560) / 70224 < (s.ppu.modeStart + n + 4560) / 70224
  vblank : t.iflag.getLsbD 0 = true ↔
    s.iflag.getLsbD 0 = true ∨ (s.ppu.modeStart + 4560) / 70224 < (s.ppu.modeStart + n + 4560) / 70224

/-- A mode holds no start of line 144 but, at its end, its own: the starts of lines are multiples of 456. -/
theorem Ppu.modeEnd_le (p : Ppu) : p.modeStart + p.mode.budget ≤ (p.ly.toNat + 1) * 456 := by
  unfold Ppu.modeStart
  cases p.mode <;> simp only [PpuMode.lineStart, PpuMode.budget] <;> omega

theorem FrameAdvances.of_moves {s u t : State} {n : Nat} (hline : s.ppu.ly.toNat ≤ 153) (hn : s.ppu.mode.budget ≤ n) (hmoves : FrameMoves s u)
    (hrest : FrameAdvances u t (n - s.ppu.mode.budget)) : FrameAdvances s t n := by
  obtain ⟨hstart, hready, hvblank⟩ := hmoves
  obtain ⟨⟨m, hpos⟩, hready', hvblank'⟩ := hrest
  have hbudget := s.ppu.mode.budget_ge
  have hinside := s.ppu.modeEnd_le
  have hlow : s.ppu.ly.toNat * 456 ≤ s.ppu.modeStart := Nat.le_add_right ..
  have hcount : (s.ppu.modeStart + s.ppu.mode.budget = 65664 ∨
      (u.ppu.modeStart + 4560) / 70224 < (u.ppu.modeStart + (n - s.ppu.mode.budget) + 4560) / 70224) ↔
      (s.ppu.modeStart + 4560) / 70224 < (s.ppu.modeStart + n + 4560) / 70224 := by
    rcases hstart with hstart | ⟨hstart, hwrap⟩ <;> rw [hstart] <;> omega
  refine ⟨?_, ?_, ?_⟩
  · rcases hstart with hstart | ⟨hstart, hwrap⟩
    · exact ⟨m, by omega⟩
    · exact ⟨m + 1, by omega⟩
  · rw [hready', hready, Bool.or_eq_true, decide_eq_true_eq, or_assoc, hcount]
  · rw [hvblank', hvblank, Bool.or_eq_true, decide_eq_true_eq, or_assoc, hcount]

/-- The PPU's advance moves through the frame, mode by mode (60_exceptions R450). -/
theorem State.ppuAdvance_frame {s : State} (h : s.ppu.Shape) (c : Nat) : FrameAdvances s (s.ppuAdvance c) (s.ppu.dots + c) := by
  generalize hn : s.ppu.dots + c = n
  induction n using Nat.strong_induction_on generalizing s c with
  | _ n ih =>
    by_cases hend : s.ppu.mode.budget ≤ s.ppu.dots + c
    · have hbudget := s.ppu.mode.budget_ge
      have hu : ({ s with ppu := { s.ppu with dots := s.ppu.dots + c - s.ppu.mode.budget } } : State).ppu.Shape := h.withDots _
      have hmoves := State.modeEnd_frame hu
      obtain ⟨-, -, -, -, hdots⟩ := State.modeEnd_ppu { s with ppu := { s.ppu with dots := s.ppu.dots + c - s.ppu.mode.budget } }
      rw [State.ppuAdvance_of_le h.on hend]
      refine FrameAdvances.of_moves h.line (hn ▸ hend) ⟨hmoves.start, hmoves.ready, hmoves.vblank⟩ ?_
      exact ih _ (by omega) (State.modeEnd_shape hu) 0 (hdots.trans (by rw [← hn]))
    · have hstill := State.ppuAdvance_of_lt h.on (Nat.not_le.1 hend)
      have hinside := s.ppu.modeEnd_le
      have hlow : s.ppu.ly.toNat * 456 ≤ s.ppu.modeStart := Nat.le_add_right ..
      have hnone : ¬ (s.ppu.modeStart + 4560) / 70224 < (s.ppu.modeStart + n + 4560) / 70224 := by omega
      rw [hstill]
      refine ⟨⟨0, ?_⟩, (or_iff_left hnone).symm, (or_iff_left hnone).symm⟩
      have hplace : s.ppu.modeStart = Ppu.modeStart { s.ppu with dots := s.ppu.dots + c } := rfl
      rw [Ppu.framePos_eq, Nat.mul_zero, Nat.add_zero, ← hn, hplace]

/-- A well-formed PPU's line and mode, from its place in the frame (60_exceptions R459). -/
theorem Ppu.Wf.of_framePos {p : Ppu} (h : p.Wf) : p.framePos < 70224 ∧ p.ly.toNat = p.framePos / 456 ∧
    (p.mode = .oamSearch ↔ p.framePos / 456 < 144 ∧ p.framePos % 456 < 80) ∧
    (p.mode = .dataTransfer ↔ p.framePos / 456 < 144 ∧ 80 ≤ p.framePos % 456 ∧ p.framePos % 456 < 252) ∧
    (p.mode = .vblank ↔ 144 ≤ p.framePos / 456) := by
  have hdots := h.dots
  have hline := h.line
  have hvblank := h.vblank
  rw [Ppu.framePos_eq, Ppu.modeStart]
  cases hmode : p.mode <;> simp only [hmode, PpuMode.budget, PpuMode.lineStart, reduceCtorEq, true_iff, false_iff] at * <;> omega

/-- Settles O50: the place after the advance modulo a frame, from which line and mode follow; a VBLANK start lies in the run exactly where
one lies between the start of the current mode and its end. -/
theorem framePositionAdvances : Obligations.FramePositionAdvances := by
  unfold Obligations.FramePositionAdvances
  intro s c hwf hon
  obtain ⟨⟨m, hpos⟩, hready, hvblank⟩ := State.ppuAdvance_frame (hwf.shape hon) c
  obtain ⟨hlt, hly, hoam, hdata, hvb⟩ := (State.ppuAdvance_wf hwf c).of_framePos
  have hstart := s.ppu.framePos_eq
  have hmod : (s.ppuAdvance c).ppu.framePos = (s.ppu.framePos + c) % 70224 := by omega
  have hcount : (s.ppu.modeStart + 4560) / 70224 < (s.ppu.modeStart + (s.ppu.dots + c) + 4560) / 70224 ↔
      (s.ppu.framePos + 4560) / 70224 < (s.ppu.framePos + c + 4560) / 70224 := by
    have hinside := s.ppu.modeEnd_le
    have hlow : s.ppu.ly.toNat * 456 ≤ s.ppu.modeStart := Nat.le_add_right ..
    have hdots := hwf.dots
    have hsame : (s.ppu.modeStart + 4560) / 70224 = (s.ppu.framePos + 4560) / 70224 := by omega
    rw [← Nat.add_assoc, ← hstart, hsame]
  have hline : (s.ppu.framePos + c) % 70224 % 456 = (s.ppu.framePos + c) % 456 := by omega
  rw [hmod] at hly hoam hdata hvb
  rw [hline] at hoam hdata
  rw [hcount, ← exists_vblank_iff] at hready hvblank
  exact ⟨hmod, hly, hoam, hdata, hvb, hready, hvblank⟩

end Sys2Proof.Machine

/-! The pixels of a line (60_exceptions R452 to R454, R460; 10_state R48 to R50): the background and the window, then the sprites. -/

namespace Sys2Proof.Machine

open Sys2Proof

/-! Tiles and palettes. -/

/-- A tile's colour index from its two planes, the high one's bit first (60_exceptions R452). -/
theorem State.tilePixel_eq (s : State) (t : Byte) (row col : Nat) (unsigned : Bool) :
    s.tilePixel t row col unsigned =
      BitVec.ofNat 2 (2 * ((s.vramByte (tileBase t unsigned + 2 * row + 1)).getLsbD (7 - col)).toNat +
        ((s.vramByte (tileBase t unsigned + 2 * row)).getLsbD (7 - col)).toNat) := by
  have hplanes : ∀ hi lo : Bool, BitVec.ofBool hi ++ BitVec.ofBool lo = BitVec.ofNat 2 (2 * hi.toNat + lo.toNat) := by decide
  exact hplanes _ _

/-- The tile data of an index: from 8000 on, or, signed, around 9000. -/
theorem tileBase_eq (t : Byte) (unsigned : Bool) :
    tileBase t unsigned = if unsigned then 16 * t.toNat else if t.toNat < 128 then 0x1000 + 16 * t.toNat else 16 * t.toNat := by
  have ht := t.isLt
  have hsigned := t.toInt_eq_toNat_cond
  cases unsigned with
  | true => rfl
  | false =>
    simp only [tileBase, Bool.false_eq_true, if_false]
    split at hsigned <;> split <;> omega

/-- Two bits of the palette for each index (10_state R48). -/
theorem paletteShade_eq (pal : Byte) (idx : Shade) : paletteShade pal idx = BitVec.ofNat 2 (pal.toNat / 4 ^ idx.toNat) := by
  apply BitVec.eq_of_toNat_eq
  rw [paletteShade, BitVec.toNat_setWidth, toNat_shiftRight, BitVec.toNat_ofNat, Nat.pow_mul]

/-! The background and the window (60_exceptions R452, R453). -/

theorem Ppu.windowCovers_iff (p : Ppu) (x : Nat) : p.windowCovers x = true ↔
    p.lcdc.getLsbD 0 = true ∧ p.lcdc.getLsbD 5 = true ∧ p.wy.toNat ≤ p.ly.toNat ∧ p.wx.toNat ≤ x + 7 := by
  simp only [Ppu.windowCovers, bitOf, Bool.and_eq_true, decide_eq_true_eq, and_assoc]

section
variable {s : State}

theorem State.layer_of_bgOff (hoff : s.ppu.lcdc.getLsbD 0 = false) (x : Nat) : s.layerIndex x = 0 ∧ s.layerShade x = 0 := by
  simp only [State.layerIndex, State.layerShade, bitOf, hoff, Bool.false_eq_true, if_false, and_self]

/-- A pixel of the tile map that LCDC bit `b` selects, at column `px` and row `py` of the map (60_exceptions R452, R453). -/
def State.mapPixel (s : State) (b px py : Nat) : Shade :=
  s.tilePixel (s.vramByte (mapBase (bitOf s.ppu.lcdc b) + 32 * (py / 8) + px / 8)) (py % 8) (px % 8) (bitOf s.ppu.lcdc 4)

/-- The layer is one of two maps at one of two positions. -/
theorem State.layerIndex_eq (hon : s.ppu.lcdc.getLsbD 0 = true) (x : Nat) : s.layerIndex x =
    s.mapPixel (if s.ppu.windowCovers x then 6 else 3)
      (if s.ppu.windowCovers x then x + 7 - s.ppu.wx.toNat else (s.ppu.scx.toNat + x) % 256)
      (if s.ppu.windowCovers x then s.ppu.wline else (s.ppu.scy.toNat + s.ppu.ly.toNat) % 256) := by
  rw [State.layerIndex, bitOf, if_pos hon]
  split <;> rfl

theorem State.layerShade_eq (hon : s.ppu.lcdc.getLsbD 0 = true) (x : Nat) :
    s.layerShade x = BitVec.ofNat 2 (s.ppu.bgp.toNat / 4 ^ (s.layerIndex x).toNat) := by
  rw [State.layerShade, bitOf, if_pos hon, paletteShade_eq]

theorem State.pixelShade_of_spritesOff (hoff : s.ppu.lcdc.getLsbD 1 = false) (x : Nat) : s.pixelShade x = s.layerShade x := by
  rw [State.pixelShade, bitOf, hoff]
  rfl

end

/-- A pixel of a map, with the tile's index and data read where the rule says. -/
theorem State.mapPixel_eq (s : State) {b px py map t base : Nat} (hmap : map = if s.ppu.lcdc.getLsbD b then 0x1C00 else 0x1800)
    (ht : t = (s.mem.read (0x8000 + (map + 32 * (py / 8) + px / 8))).toNat)
    (hbase : base = if s.ppu.lcdc.getLsbD 4 then 16 * t else if t < 128 then 0x1000 + 16 * t else 16 * t) :
    s.mapPixel b px py =
      BitVec.ofNat 2 (2 * ((s.mem.read (0x8000 + (base + 2 * (py % 8) + 1))).getLsbD (7 - px % 8)).toNat +
        ((s.mem.read (0x8000 + (base + 2 * (py % 8)))).getLsbD (7 - px % 8)).toNat) := by
  have hmap' : mapBase (bitOf s.ppu.lcdc b) = map := hmap.symm
  have ht' : (s.vramByte (map + 32 * (py / 8) + px / 8)).toNat = t := ht.symm
  have hbase' : (if bitOf s.ppu.lcdc 4 then 16 * t else if t < 128 then 0x1000 + 16 * t else 16 * t) = base := hbase.symm
  rw [State.mapPixel, State.tilePixel_eq, tileBase_eq, hmap', ht', hbase']
  rfl

theorem toNat_ofNat_planes (hi lo : Bool) : (BitVec.ofNat 2 (2 * hi.toNat + lo.toNat)).toNat = 2 * hi.toNat + lo.toNat := by
  cases hi <;> cases lo <;> rfl

theorem State.renderedLine_getElem? (s : State) {x : Nat} (hx : x < 160) : s.renderedLine[x]? = some (s.pixelShade x) := by
  rw [State.renderedLine, List.getElem?_map, List.getElem?_range hx]
  rfl

theorem Ppu.windowOnLine_iff (p : Ppu) : p.windowOnLine = true ↔ ∃ x < 160, p.windowCovers x = true := by
  simp only [Ppu.windowOnLine, List.any_eq_true, List.mem_range]

/-- Settles O54: the line is the rendered one, and each pixel's layer is a pixel of a map (`State.mapPixel_eq`). -/
theorem lineRendersBackground : Obligations.LineRendersBackground := by
  unfold Obligations.LineRendersBackground
  refine ⟨fun s y hy => ?_, fun s hly => ⟨s.renderedLine, ?_, s.renderedLine_length, fun x hx => ?_⟩, Ppu.windowCovers_iff,
    fun s x hoff => State.layer_of_bgOff hoff x, ?_, fun s => ?_⟩
  · rw [State.endDataTransfer_ppu]
    exact List.getElem?_set_ne hy.symm
  · rw [State.endDataTransfer_ppu]
    exact List.getElem?_set_self hly
  · refine ⟨s.renderedLine_getElem? hx, fun hoff => ?_⟩
    rw [s.renderedLine_getElem? hx, State.pixelShade_of_spritesOff hoff]
  · intro s x px py map t base idx lo hi hon hpx hpy hmap ht hbase hlo hhi hidx
    have hindex : s.layerIndex x = BitVec.ofNat 2 idx := by
      rw [State.layerIndex_eq hon, ← hpx, ← hpy, s.mapPixel_eq hmap ht hbase, ← hhi, ← hlo, ← hidx]
    refine ⟨hindex, ?_⟩
    rw [State.layerShade_eq hon, hindex, hidx, toNat_ofNat_planes]
  · rw [State.endDataTransfer_ppu]
    exact ⟨(Bool.or_eq_true ..).to_iff.trans (or_congr Iff.rfl s.ppu.windowOnLine_iff), rfl⟩

/-! The sprites (60_exceptions R454). -/

/-- A sprite that leaves a pixel to those behind it: it does not cover it, or is transparent there. -/
def State.passesOver (s : State) (x : Nat) (e : Sprite) : Prop := e.covers x = false ∨ s.spriteIndex e x = 0

section
variable {s : State} {x : Nat}

theorem State.spriteShade_of_passesOver {e : Sprite} (he : s.passesOver x e) (rest : List Sprite) :
    s.spriteShade x (e :: rest) = s.spriteShade x rest := by
  rw [State.spriteShade]
  rcases he with hcovers | hzero
  · rw [hcovers]
    rfl
  · rw [if_pos hzero, ite_self]

theorem State.spriteShade_append {pre : List Sprite} (hpre : ∀ p ∈ pre, s.passesOver x p) (rest : List Sprite) :
    s.spriteShade x (pre ++ rest) = s.spriteShade x rest := by
  induction pre with
  | nil => rfl
  | cons e pre ih =>
    rw [List.cons_append, State.spriteShade_of_passesOver (hpre e (List.mem_cons_self ..))]
    exact ih fun p hp => hpre p (List.mem_cons_of_mem _ hp)

/-- The first opaque sprite decides the pixel, unless it lies behind a background index other than 0. -/
theorem State.spriteShade_of_opaque {e : Sprite} (hcovers : e.covers x = true) (hopaque : s.spriteIndex e x ≠ 0) (rest : List Sprite) :
    s.spriteShade x (e :: rest) = if e.attr.getLsbD 7 = true ∧ s.layerIndex x ≠ 0 then s.layerShade x
      else paletteShade (if e.attr.getLsbD 4 then s.ppu.obp1 else s.ppu.obp0) (s.spriteIndex e x) := by
  rw [State.spriteShade, hcovers, if_neg (by decide), if_neg hopaque]
  exact if_congr (by rw [Bool.and_eq_true, decide_eq_true_eq, bitOf]) rfl rfl

theorem State.pixelShade_of_spritesOn (hon : s.ppu.lcdc.getLsbD 1 = true) : s.pixelShade x = s.spriteShade x s.ppu.sprites := by
  rw [State.pixelShade, bitOf, if_pos hon]

theorem State.pixelShade_of_noSprite (h : ∀ p ∈ s.ppu.sprites, s.passesOver x p) : s.pixelShade x = s.layerShade x := by
  have hall := State.spriteShade_append h []
  rw [List.append_nil] at hall
  rw [State.pixelShade, hall]
  exact ite_self _

end

/-- Sprites of height 16 show the even tile of their pair above the odd one (60_exceptions R454). -/
theorem toNat_pairedTile (tile : Byte) {k : Nat} (hk : k < 2) :
    ((tile &&& 0xFE) ||| BitVec.ofNat 8 k).toNat = 2 * (tile.toNat / 2) + k := by
  have heven : ∀ t : Byte, t &&& (0xFE : Byte) = (t >>> 1) <<< 1 := by decide
  have hbit : (BitVec.ofNat 8 k).toNat = k := by
    rw [BitVec.toNat_ofNat]
    omega
  rw [heven, toNat_shiftLeft_or _ (by rw [hbit]; exact hk), toNat_shiftRight, hbit]
  omega

/-- The row of a sprite that lies inside its height, flipped or not. -/
theorem Sprite.row_eq {e : Sprite} {ly : Byte} {h r : Nat} (hly : (ly.toNat : Int) = (e.y.toNat : Int) - 16 + r) (hr : r < h) :
    e.row ly h = ((if e.attr.getLsbD 6 then h - 1 - r else r : Nat) : Int) := by
  unfold Sprite.row bitOf
  dsimp only
  split <;> omega

/-- A sprite's colour index from an unsigned tile, at a row inside its height. -/
theorem State.spriteIndex_eq (s : State) {e : Sprite} {x row : Nat} (hrow : e.row s.ppu.ly s.ppu.spriteHeight = (row : Int))
    (hinside : row < s.ppu.spriteHeight) : s.spriteIndex e x =
      s.tilePixel (if s.ppu.spriteHeight = 16 then (e.tile &&& 0xFE) ||| BitVec.ofNat 8 (row / 8) else e.tile) (row % 8) (e.column x) true := by
  have hheight : s.ppu.spriteHeight = 16 ∨ s.ppu.spriteHeight = 8 := by
    unfold Ppu.spriteHeight
    split <;> simp
  unfold State.spriteIndex
  dsimp only
  rw [hrow, if_pos (by omega), Int.toNat_natCast]
  split
  · rfl
  · rw [Nat.mod_eq_of_lt (by omega)]

/-- Settles O55: the sprites before the first opaque one are passed over (`State.spriteShade_append`), and its index is a pixel of an
unsigned tile (`State.spriteIndex_eq`). -/
theorem firstOpaqueSpriteDecides : Obligations.FirstOpaqueSpriteDecides := by
  unfold Obligations.FirstOpaqueSpriteDecides
  refine ⟨fun s x pre post e hon hsplit hpre hcovers hopaque => ?_, fun s x h => ?_, fun s x hoff => (State.layer_of_bgOff hoff x).symm,
    fun e x => ?_, paletteShade_eq, ?_⟩
  · rw [State.pixelShade_of_spritesOn hon, hsplit, State.spriteShade_append hpre, State.spriteShade_of_opaque hcovers hopaque]
  · rcases h with hoff | hnone
    · exact State.pixelShade_of_spritesOff hoff x
    · exact State.pixelShade_of_noSprite hnone
  · simp only [Sprite.covers, Bool.and_eq_true, decide_eq_true_eq]
    omega
  · intro s e x h r row col t lo hi hcovers hh hly hr hrow hcol ht hlo hhi
    have hheight : s.ppu.spriteHeight = h := hh.symm
    have hsprite : e.row s.ppu.ly s.ppu.spriteHeight = (row : Int) := by rw [hheight, Sprite.row_eq hly hr, ← hrow]
    have h16 : h ≤ 16 := by
      rw [hh]
      split <;> decide
    have hinside : row < h := by
      rw [hrow]
      split <;> omega
    have hcolumn : e.column x = col := hcol.symm
    have htile : (if h = 16 then (e.tile &&& 0xFE) ||| BitVec.ofNat 8 (row / 8) else e.tile).toNat = t := by
      rw [ht]
      split
      · exact toNat_pairedTile e.tile (by omega)
      · rfl
    rw [s.spriteIndex_eq hsprite (hheight.symm ▸ hinside), hheight, hcolumn, State.tilePixel_eq, tileBase_eq, if_pos rfl, htile]
    simp only [State.vramByte]
    rw [← hhi, ← hlo]

end Sys2Proof.Machine

/-! Memories in canonical form (10_state R53, 20_memory R144): writing one into an empty memory gives it back, and cutting one to some
addresses leaves the others unlisted. -/

namespace Sys2Proof

theorem Memory.write_above {m : Memory} {a : Nat} {v : Byte} (h : ∀ c ∈ m, c.1 < a) (hv : v ≠ Memory.unlisted) :
    m.write a v = m ++ [(a, v)] := by
  induction m with
  | nil => exact if_neg hv
  | cons d rest ih =>
    have hd : d.1 < a := h d (List.mem_cons_self ..)
    rw [Memory.write, if_neg (by omega), if_neg (by omega), ih fun c hc => h c (List.mem_cons_of_mem _ hc), List.cons_append]

theorem Memory.writeAll_eq_append {m l : Memory} (h : Memory.wf (m ++ l)) : m.writeAll l = m ++ l := by
  induction l generalizing m with
  | nil => exact (List.append_nil m).symm
  | cons c rest ih =>
    have habove : ∀ d ∈ m, d.1 < c.1 := fun d hd => (List.pairwise_append.1 h.1).2.2 d hd c (List.mem_cons_self ..)
    have hshift : m ++ c :: rest = m ++ [c] ++ rest := List.append_cons m c rest
    rw [Memory.writeAll, Memory.write_above habove (h.2 c (by simp)), hshift]
    exact ih (hshift ▸ h)

theorem Memory.writeAll_nil {m : Memory} (h : m.wf) : Memory.writeAll [] m = m := Memory.writeAll_eq_append h

theorem Memory.wf_filter {m : Memory} (h : m.wf) (p : Host.Cell → Bool) : Memory.wf (m.filter p) :=
  ⟨h.1.filter p, fun c hc => h.2 c (List.mem_of_mem_filter hc)⟩

theorem Memory.read_filter (m : Memory) (p : Nat → Bool) (a : Nat) :
    Memory.read (m.filter fun c => p c.1) a = if p a then m.read a else Memory.unlisted := by
  induction m with
  | nil => exact (ite_self _).symm
  | cons d rest ih =>
    rw [List.filter_cons, Memory.read]
    by_cases hd : d.1 = a
    · cases hp : p a <;> simp [hd, hp, Memory.read, ih]
    · cases p d.1 <;> simp [hd, Memory.read, ih]

/-- A canonical memory cut to some addresses and written into an empty one. -/
theorem Memory.read_writeAll_filter {m : Memory} (h : m.wf) (p : Nat → Bool) (a : Nat) :
    Memory.read (Memory.writeAll [] (m.filter fun c => p c.1)) a = if p a then m.read a else Memory.unlisted := by
  rw [Memory.writeAll_nil (Memory.wf_filter h _), Memory.read_filter]

end Sys2Proof

/-! Reset and load (70_reset_and_hazards R500, R503, R504; 20_memory R142 to R146). -/

namespace Sys2Proof.Machine

open Sys2Proof

/-- Settles O14: the reset state is `State.resetWith` around an empty store and an empty slot. -/
theorem resetStateIsWellFormed : Obligations.ResetStateIsWellFormed :=
  State.Wf.resetWith (mem := []) (cart := none) ⟨Memory.wf_nil, nofun⟩ nofun Params.default

/-! Reset. -/

theorem Ppu.reset_pixel {x y : Nat} (hx : x < 160) (hy : y < 144) : Ppu.reset.fb.flatten[y * 160 + x]? = some 0 := by
  rw [getElem?_flatten_of_width Ppu.Wf.reset.frame.2 hx (row := List.replicate 160 0) (List.getElem?_replicate_of_lt hy),
    List.getElem?_replicate_of_lt hx]

/-- DIV, TAC, IF, STAT and P1 as the bus reads them after reset; the store and the slot have no part in it (20_memory R110). -/
theorem State.reset_busRead : State.reset.busRead 0xFF04 = 0xAB ∧ State.reset.busRead 0xFF07 = 0xF8 ∧ State.reset.busRead 0xFF0F = 0xE1 ∧
    State.reset.busRead 0xFF41 = 0x86 ∧ State.reset.busRead 0xFF00 = 0xCF := by decide

/-- Both resets are the state of R500 around some memory, cartridge and parameters. -/
theorem exists_resetWith_of_reset {t : State} (h : t = State.reset ∨ ∃ s : State, t = s.hostReset) :
    ∃ mem cart params, t = State.resetWith mem cart params := by
  rcases h with rfl | ⟨s, rfl⟩
  · exact ⟨_, _, _, rfl⟩
  · exact ⟨_, _, _, rfl⟩

theorem ramAtReset_read {params : Params} (h : params.initRam.wf) (a : Nat) :
    (ramAtReset params).read a = if isRamAddress a then params.initRam.read a else 0x00 :=
  Memory.read_writeAll_filter h isRamAddress a

theorem State.hostReset_congr {s t : State} (hparams : s.params = t.params) (hcart : s.cart = t.cart) : s.hostReset = t.hostReset := by
  rw [State.hostReset, State.hostReset, hparams, hcart]

theorem State.hostReset_cart {s : State} {c : Cart} (hcart : s.cart = some c) : s.hostReset.cart = some c.resetBanks :=
  congrArg (Option.map Cart.resetBanks) hcart

theorem State.hostReset_cart_none {s : State} (hcart : s.cart = none) : s.hostReset.cart = none :=
  congrArg (Option.map Cart.resetBanks) hcart

/-- Settles O60: both resets are `State.resetWith`, whose registers are the table's; the RAM is `ramAtReset_read`, the cartridge
`State.hostReset_cart`. -/
theorem resetSetsEveryRegister : Obligations.ResetSetsEveryRegister := by
  unfold Obligations.ResetSetsEveryRegister
  refine ⟨fun t ht => ?_, fun a => rfl, fun s a hram => ramAtReset_read hram a,
    fun s => ⟨rfl, State.hostReset_cart_none, fun c hc => ⟨c.resetBanks, State.hostReset_cart hc, rfl, rfl, rfl, rfl, rfl⟩⟩,
    fun s t => State.hostReset_congr⟩
  obtain ⟨mem, cart, params, rfl⟩ := exists_resetWith_of_reset ht
  exact ⟨rfl, rfl, rfl, rfl, rfl, rfl, rfl, rfl, -- the CPU's registers and control bits, IE, IF and the timer
    rfl, rfl, rfl, rfl, rfl, rfl, rfl, rfl, rfl, rfl, rfl, rfl, rfl, rfl, rfl, rfl, rfl, rfl, -- the PPU's registers and internal state
    fun x y => Ppu.reset_pixel, rfl, rfl, State.reset_busRead⟩

/-! Load. -/

/-- The variant that a header code selects starts with its bank-select state at the reset values (20_memory R143, R145). -/
theorem bankingOf_reset {code : Byte} {b : Banking} (h : bankingOf code = some b) : b.reset = b := by
  unfold bankingOf at h
  split_ifs at h <;> cases h <;> rfl

/-- The four header codes that R146 supports, with the variant each selects. -/
theorem bankingOf_of_mem {code : Byte} (h : code ∈ [0x00#8, 0x01#8, 0x02#8, 0x03#8]) :
    ∃ b, bankingOf code = some b ∧ (code = 0x00 → b = .romOnly) ∧ (code ≠ 0x00 → b = .mbc1 Mbc1.reset) := by
  rcases List.mem_cons.1 h with rfl | hmbc1
  · exact ⟨.romOnly, rfl, fun _ => rfl, fun hne => absurd rfl hne⟩
  · exact ⟨.mbc1 Mbc1.reset, bankingOf_mbc1 hmbc1, fun heq => by subst heq; simp at hmbc1, fun _ => rfl⟩

theorem bankingOf_eq_none {code : Byte} (h : code ∉ [0x00#8, 0x01#8, 0x02#8, 0x03#8]) : bankingOf code = none := by
  simp only [List.mem_cons, List.not_mem_nil, or_false] at h
  obtain ⟨hrom, hmbc1⟩ := not_or.1 h
  exact (if_neg hrom).trans (if_neg hmbc1)

theorem Cart.ofImage_eq_none (params : Params) {image : List Byte}
    (h : image.length < 0x150 ∨ image.getD 0x147 0 ∉ [0x00#8, 0x01#8, 0x02#8, 0x03#8]) : Cart.ofImage params image = none := by
  rw [Cart.ofImage]
  rcases h with hlen | hcode
  · exact if_pos hlen
  · rw [bankingOf_eq_none hcode]
    exact ite_self _

/-- The save RAM of a fresh cartridge: none in a ROM-only one, and in any it is `INIT_RAM` cut to its size (20_memory R142, R144). -/
theorem Cart.ofImage_ram {params : Params} {image : List Byte} {c : Cart} (h : Cart.ofImage params image = some c) :
    (c.banking = .romOnly → c.ramSize = 0) ∧ (∀ b, c.banking = .mbc1 b → c.ramSize = ramSizeOf (image.getD 0x149 0)) ∧
      c.ram = initSaveRam params c.ramSize := by
  unfold Cart.ofImage at h
  split at h
  · cases h
  · split at h
    · cases h
    · cases h
      exact ⟨fun hb => by cases hb; rfl, fun b hb => by cases hb; rfl, rfl⟩

theorem initSaveRam_read {params : Params} (h : params.initSaveRam.wf) {size i : Nat} (hi : i < size) :
    (initSaveRam params size).read i = params.initSaveRam.read i :=
  (Memory.read_writeAll_filter h (fun k => decide (k < size)) i).trans (if_pos (decide_eq_true hi))

/-- The save-RAM sizes of the codes that R144 lists. -/
theorem ramSizeOf_listed (code : Byte) : (code = 0 → ramSizeOf code = 0) ∧ (code = 1 → ramSizeOf code = 0x800) ∧
    (code = 2 → ramSizeOf code = 0x2000) ∧ (code = 3 → ramSizeOf code = 0x8000) := by
  refine ⟨?_, ?_, ?_, ?_⟩ <;> rintro rfl <;> rfl

theorem State.hostLoad_of_some {s : State} {image : List Byte} {c : Cart} (h : Cart.ofImage s.params image = some c) :
    s.hostLoad image = (State.hostReset { s with cart := some c }, true) := by
  rw [State.hostLoad, h]

theorem State.hostLoad_of_none {s : State} {image : List Byte} (h : Cart.ofImage s.params image = none) :
    s.hostLoad image = (State.hostReset { s with cart := none }, false) := by
  rw [State.hostLoad, h]

/-- Settles O59: a supported image loads by `Cart.ofImage_of_banking` as a cartridge that the reset leaves as it is; any other leaves the
slot empty, where step and run are refused. -/
theorem loadReplacesTheCartridge : Obligations.LoadReplacesTheCartridge := by
  unfold Obligations.LoadReplacesTheCartridge
  refine ⟨fun s image hlen hcode => ?_, fun s image hbad => ?_⟩
  · obtain ⟨b, hb, hromOnly, hmbc1⟩ := bankingOf_of_mem hcode
    obtain ⟨c, hload, rfl, hlength, hread⟩ := Cart.ofImage_of_banking s.params hlen hb
    obtain ⟨hnoRam, hsize, hram⟩ := Cart.ofImage_ram hload
    have hbanks : c.resetBanks = c := by rw [Cart.resetBanks, bankingOf_reset hb]
    rw [State.hostLoad_of_some hload]
    refine ⟨c, rfl, ?_, hlength, fun i _ => hread i, hbanks, hromOnly, hmbc1, fun heq => hnoRam (hromOnly heq),
      fun hne => ?_, fun hinit i hi => ?_⟩
    · exact (State.hostReset_cart rfl).trans (congrArg some hbanks)
    · rw [hsize _ (hmbc1 hne)]
      exact ramSizeOf_listed _
    · rw [hram, initSaveRam_read hinit hi]
  · rw [State.hostLoad_of_none (Cart.ofImage_eq_none s.params hbad)]
    have hcart : (State.hostReset { s with cart := none }).cart = none := State.hostReset_cart_none rfl
    exact ⟨rfl, hcart, step_of_noCart hcart, State.hostStep_of_noCart hcart, fun n => if_pos hcart⟩

end Sys2Proof.Machine
